-- ==== Sys2Proof/Word.lean ====
section
/-! DEFINITION. Word.lean: the word types (spec R8) and the small fixed-size arrays the spec indexes. -/

namespace Sys2Proof

/-- `u8` (R8). -/
abbrev Byte := BitVec 8

/-- `u16` (R8). -/
abbrev Half := BitVec 16

/-- `u64` (R8): cycle numbers and command words. -/
abbrev Word64 := BitVec 64

/-- A 15-bit colour (R11): red 4:0, green 9:5, blue 14:10. -/
abbrev Color := BitVec 15

/-- An output pixel (R398). -/
abbrev Pixel := BitVec 32

/-- Index of a pair: the two parameter sets, windows, target masks. -/
inductive Ix2 where
  | n0 | n1
  deriving DecidableEq, Repr

/-- Index of a four-element array: the layers BG0 to BG3, the timers. -/
inductive Ix4 where
  | n0 | n1 | n2 | n3
  deriving DecidableEq, Repr

def Ix2.toNat : Ix2 → Nat
  | .n0 => 0
  | .n1 => 1

def Ix4.toNat : Ix4 → Nat
  | .n0 => 0
  | .n1 => 1
  | .n2 => 2
  | .n3 => 3

/-- Two like things, `x[0..1]`. -/
structure Two (α : Type) where
  e0 : α
  e1 : α
  deriving DecidableEq, Repr

/-- Four like things, `x[0..3]`. -/
structure Four (α : Type) where
  e0 : α
  e1 : α
  e2 : α
  e3 : α
  deriving DecidableEq, Repr

/-- Register-array read `x[i]` (R9). -/
def Two.get {α : Type} (t : Two α) : Ix2 → α
  | .n0 => t.e0
  | .n1 => t.e1

/-- Register-array write `x[i] <- v` (R9). -/
def Two.set {α : Type} (t : Two α) (i : Ix2) (v : α) : Two α :=
  match i with
  | .n0 => { t with e0 := v }
  | .n1 => { t with e1 := v }

/-- Register-array read `x[i]` (R9). -/
def Four.get {α : Type} (t : Four α) : Ix4 → α
  | .n0 => t.e0
  | .n1 => t.e1
  | .n2 => t.e2
  | .n3 => t.e3

/-- Register-array write `x[i] <- v` (R9). -/
def Four.set {α : Type} (t : Four α) (i : Ix4) (v : α) : Four α :=
  match i with
  | .n0 => { t with e0 := v }
  | .n1 => { t with e1 := v }
  | .n2 => { t with e2 := v }
  | .n3 => { t with e3 := v }

def Two.both {α : Type} (v : α) : Two α := ⟨v, v⟩

def Four.all {α : Type} (v : α) : Four α := ⟨v, v, v, v⟩

/-- Which byte of a 16-bit register: `lo` is the byte at the even address (bits 7:0), `hi` the byte above it (R82, R86). -/
inductive Lane where
  | lo | hi
  deriving DecidableEq, Repr

def Lane.toNat : Lane → Nat
  | .lo => 0
  | .hi => 1

/-- The three memory regions of R80 that the bus and the renderer share. -/
inductive Space where
  | pram | oam | vram
  deriving DecidableEq, Repr

/-- A 3-bit phase code, which is also the tag of the event at the phase's end (R24, R110).
Codes 5 to 7 name no phase. -/
inductive Phase where
  | scanline | hblankSearch | hblank | vblankScanline | vblankHblank | code5 | code6 | code7
  deriving DecidableEq, Repr

end Sys2Proof
end

