-- ==== Sys2Proof/Config.lean ====
section
/-! DEFINITION. Config.lean: the fixed parameters of R6, the OPEN parameters as plain data, and the free values. -/

namespace Sys2Proof

namespace Config

/-- `N_LINES` (R6). -/
def nLines : Nat := 228

/-- `N_VISIBLE` (R6). -/
def nVisible : Nat := 160

/-- `SCREEN_W` (R6). -/
def screenW : Nat := 240

/-- `LINE_CYCLES` (R6). -/
def lineCycles : Nat := 1232

/-- `FRAME_CYCLES` (R6). -/
def frameCycles : Nat := 280896

/-- `PRAM_SIZE`, `OAM_SIZE`, `VRAM_SIZE` in bytes (R6). -/
def spaceSize : Space → Nat
  | .pram => 1024
  | .oam => 1024
  | .vram => 98304

/-- The largest `delta` of an ADV (R113). -/
def maxDelta : Nat := 0x7FFFFC00

/-- A byte the spec leaves unspecified: the `n`-th draw (R242, R441). No value of it is known. -/
opaque freeByte : Nat → Byte

/-- A pixel of a row rendered in display mode 6 or 7: the `n`-th draw (R302). No value of it is known. -/
opaque freePixel : Nat → Pixel

/-- `ConvertColor` for a pixel format other than the default (R6, R398: an OPEN function). No value of it is known. -/
opaque otherPixel : Nat → Color → Pixel

end Config

/-- Which function `ConvertColor` is (R398): the default, or some other one. -/
inductive PixelFormat where
  | argb32
  | other (k : Nat)
  deriving DecidableEq, Repr

/-- The OPEN parameters of R6, as plain data that State carries and no step changes (log entry 4). -/
structure Params where
  /-- `VCOUNT_EVAL_ON_WRITE` (R237). -/
  vcountEvalOnWrite : Bool
  /-- `TIMER_ENABLE_CLEARS_SUBTICK` (R272). -/
  timerEnableClearsSubtick : Bool
  /-- Selects `ConvertColor` (R398). -/
  pixelFormat : PixelFormat
  deriving DecidableEq, Repr

/-- The defaults of R6. -/
def Params.default : Params := ⟨false, false, .argb32⟩

end Sys2Proof
end

