-- ==== Sys2Proof/Machine/AddressMap.lean ====
section
/-! DEFINITION. Machine/AddressMap.lean: which register byte or memory byte a bus address reaches (R81, R120, R122). -/

namespace Sys2Proof.Machine

/-- The 16-bit register halfwords of R120, by name.
A 32-bit register (BG2X, BG2Y, BG3X, BG3Y) is two of them.
The index of the affine registers is the parameter set: `n0` is BG2, `n1` is BG3 (R38). -/
inductive Reg where
  | dispcnt
  | dispstat
  | vcount
  | bgcnt (n : Ix4)
  | bghofs (n : Ix4)
  | bgvofs (n : Ix4)
  | bgpa (i : Ix2)
  | bgpb (i : Ix2)
  | bgpc (i : Ix2)
  | bgpd (i : Ix2)
  | bgxLow (i : Ix2)
  | bgxHigh (i : Ix2)
  | bgyLow (i : Ix2)
  | bgyHigh (i : Ix2)
  | winh (w : Ix2)
  | winv (w : Ix2)
  | winin
  | winout
  | mosaic
  | bldcnt
  | bldalpha
  | bldy
  | tmcntL (n : Ix4)
  | tmcntH (n : Ix4)
  deriving DecidableEq, Repr

/-- What a decoded bus address reaches: a byte of a register, or a byte offset of a memory region. -/
inductive Loc where
  | reg (r : Reg) (lane : Lane)
  | mem (sp : Space) (off : Nat)
  deriving DecidableEq, Repr

/-- Offset of a register's low byte from 0x04000000 (R120). -/
def Reg.offset : Reg → Nat
  | .dispcnt => 0x000
  | .dispstat => 0x004
  | .vcount => 0x006
  | .bgcnt n => 0x008 + 2 * n.toNat
  | .bghofs n => 0x010 + 4 * n.toNat
  | .bgvofs n => 0x012 + 4 * n.toNat
  | .bgpa i => 0x020 + 0x10 * i.toNat
  | .bgpb i => 0x022 + 0x10 * i.toNat
  | .bgpc i => 0x024 + 0x10 * i.toNat
  | .bgpd i => 0x026 + 0x10 * i.toNat
  | .bgxLow i => 0x028 + 0x10 * i.toNat
  | .bgxHigh i => 0x02A + 0x10 * i.toNat
  | .bgyLow i => 0x02C + 0x10 * i.toNat
  | .bgyHigh i => 0x02E + 0x10 * i.toNat
  | .winh w => 0x040 + 2 * w.toNat
  | .winv w => 0x044 + 2 * w.toNat
  | .winin => 0x048
  | .winout => 0x04A
  | .mosaic => 0x04C
  | .bldcnt => 0x050
  | .bldalpha => 0x052
  | .bldy => 0x054
  | .tmcntL n => 0x100 + 4 * n.toNat
  | .tmcntH n => 0x102 + 4 * n.toNat

/-- Offsets 0x000 to 0x01F of R120. -/
def Reg.control : List Reg :=
  [.dispcnt, .dispstat, .vcount, .bgcnt .n0, .bgcnt .n1, .bgcnt .n2, .bgcnt .n3,
   .bghofs .n0, .bgvofs .n0, .bghofs .n1, .bgvofs .n1, .bghofs .n2, .bgvofs .n2, .bghofs .n3, .bgvofs .n3]

/-- The affine registers of one parameter set (R120: offsets 0x020 to 0x02F, 0x030 to 0x03F). -/
def Reg.affine (i : Ix2) : List Reg :=
  [.bgpa i, .bgpb i, .bgpc i, .bgpd i, .bgxLow i, .bgxHigh i, .bgyLow i, .bgyHigh i]

/-- Offsets 0x040 to 0x055 of R120. -/
def Reg.effects : List Reg :=
  [.winh .n0, .winh .n1, .winv .n0, .winv .n1, .winin, .winout, .mosaic, .bldcnt, .bldalpha, .bldy]

/-- Offsets 0x100 to 0x10F of R120. -/
def Reg.timers : List Reg :=
  [.tmcntL .n0, .tmcntH .n0, .tmcntL .n1, .tmcntH .n1, .tmcntL .n2, .tmcntH .n2, .tmcntL .n3, .tmcntH .n3]

/-- Every register of R120, in the order of its table. -/
def Reg.all : List Reg :=
  Reg.control ++ Reg.affine .n0 ++ Reg.affine .n1 ++ Reg.effects ++ Reg.timers

/-- System address of a register's low byte. -/
def Reg.addr (r : Reg) : Nat := 0x04000000 + r.offset

/-- Base address of a memory region (R81). -/
def spaceBase : Space → Nat
  | .pram => 0x05000000
  | .vram => 0x06000000
  | .oam => 0x07000000

/-- System address of a location. -/
def Loc.addr : Loc → Nat
  | .reg r lane => r.addr + lane.toNat
  | .mem sp off => spaceBase sp + off

/-- Is the address in the region's range of R81? -/
def inSpace (sp : Space) (a : Nat) : Bool :=
  decide (spaceBase sp ≤ a) && decide (a < spaceBase sp + Config.spaceSize sp)

/-- The register byte at an address, where R120 has a row for it. -/
def decodeReg (a : Nat) : Option Loc :=
  (Reg.all.find? fun r => decide (r.addr = a - a % 2)).map fun r =>
    .reg r (if a % 2 = 0 then .lo else .hi)

/-- The address stage of decoding (R111, R120, R122).
`none`: no row matches, so the block does not decode the address (R81, R150). -/
def decodeAddr (addr : BitVec 32) : Option Loc :=
  let a := addr.toNat
  if inSpace .pram a then some (.mem .pram (a - spaceBase .pram))
  else if inSpace .vram a then some (.mem .vram (a - spaceBase .vram))
  else if inSpace .oam a then some (.mem .oam (a - spaceBase .oam))
  else decodeReg a

/-- Is the address odd, so that a 16-bit access to it is misaligned (R83)? -/
def misaligned (addr : BitVec 32) : Bool := addr.getLsbD 0

end Sys2Proof.Machine
end

