-- ==== Sys2Proof/Syntax.lean ====
section
/-! DEFINITION. Syntax.lean: the instruction type, one constructor per row of spec/opcode_table.json.
The generic rows RD8, RD16, WR8, WR16 carry a full address; the other bus rows are the same commands at one
register byte, one register halfword or one memory region (30_encoding.md R111: two-stage decoding). -/

namespace Sys2Proof

/-- One constructor per row of the opcode table: the rows with operands first, then those with none, each in the
table's order (Lean's compiler gives constructors with fields the low numbers only).
`late` of the phase events is the operand of R192 to R196 (a signed 32-bit number, R6). -/
inductive Instr where
  | adv (delta : BitVec 32)
  | rd8 (addr : BitVec 32)
  | rd16 (addr : BitVec 32)
  | wr8 (addr : BitVec 32) (data : Byte)
  | wr16 (addr : BitVec 32) (data : Half)
  | wr8Dispcnt0 (data : Byte)
  | wr8Dispcnt1 (data : Byte)
  | wr16Dispcnt (data : Half)
  | wr8Dispstat0 (data : Byte)
  | wr8Dispstat1 (data : Byte)
  | wr16Dispstat (data : Half)
  | wr8Vcount0 (data : Byte)
  | wr8Vcount1 (data : Byte)
  | wr16Vcount (data : Half)
  | wr8Bg0cnt0 (data : Byte)
  | wr8Bg0cnt1 (data : Byte)
  | wr16Bg0cnt (data : Half)
  | wr8Bg1cnt0 (data : Byte)
  | wr8Bg1cnt1 (data : Byte)
  | wr16Bg1cnt (data : Half)
  | wr8Bg2cnt0 (data : Byte)
  | wr8Bg2cnt1 (data : Byte)
  | wr16Bg2cnt (data : Half)
  | wr8Bg3cnt0 (data : Byte)
  | wr8Bg3cnt1 (data : Byte)
  | wr16Bg3cnt (data : Half)
  | wr8Bg0hofs0 (data : Byte)
  | wr8Bg0hofs1 (data : Byte)
  | wr16Bg0hofs (data : Half)
  | wr8Bg0vofs0 (data : Byte)
  | wr8Bg0vofs1 (data : Byte)
  | wr16Bg0vofs (data : Half)
  | wr8Bg1hofs0 (data : Byte)
  | wr8Bg1hofs1 (data : Byte)
  | wr16Bg1hofs (data : Half)
  | wr8Bg1vofs0 (data : Byte)
  | wr8Bg1vofs1 (data : Byte)
  | wr16Bg1vofs (data : Half)
  | wr8Bg2hofs0 (data : Byte)
  | wr8Bg2hofs1 (data : Byte)
  | wr16Bg2hofs (data : Half)
  | wr8Bg2vofs0 (data : Byte)
  | wr8Bg2vofs1 (data : Byte)
  | wr16Bg2vofs (data : Half)
  | wr8Bg3hofs0 (data : Byte)
  | wr8Bg3hofs1 (data : Byte)
  | wr16Bg3hofs (data : Half)
  | wr8Bg3vofs0 (data : Byte)
  | wr8Bg3vofs1 (data : Byte)
  | wr16Bg3vofs (data : Half)
  | wr8Bg2pa0 (data : Byte)
  | wr8Bg2pa1 (data : Byte)
  | wr16Bg2pa (data : Half)
  | wr8Bg2pb0 (data : Byte)
  | wr8Bg2pb1 (data : Byte)
  | wr16Bg2pb (data : Half)
  | wr8Bg2pc0 (data : Byte)
  | wr8Bg2pc1 (data : Byte)
  | wr16Bg2pc (data : Half)
  | wr8Bg2pd0 (data : Byte)
  | wr8Bg2pd1 (data : Byte)
  | wr16Bg2pd (data : Half)
  | wr8Bg2x0 (data : Byte)
  | wr8Bg2x1 (data : Byte)
  | wr8Bg2x2 (data : Byte)
  | wr8Bg2x3 (data : Byte)
  | wr16Bg2x0 (data : Half)
  | wr16Bg2x2 (data : Half)
  | wr8Bg2y0 (data : Byte)
  | wr8Bg2y1 (data : Byte)
  | wr8Bg2y2 (data : Byte)
  | wr8Bg2y3 (data : Byte)
  | wr16Bg2y0 (data : Half)
  | wr16Bg2y2 (data : Half)
  | wr8Bg3pa0 (data : Byte)
  | wr8Bg3pa1 (data : Byte)
  | wr16Bg3pa (data : Half)
  | wr8Bg3pb0 (data : Byte)
  | wr8Bg3pb1 (data : Byte)
  | wr16Bg3pb (data : Half)
  | wr8Bg3pc0 (data : Byte)
  | wr8Bg3pc1 (data : Byte)
  | wr16Bg3pc (data : Half)
  | wr8Bg3pd0 (data : Byte)
  | wr8Bg3pd1 (data : Byte)
  | wr16Bg3pd (data : Half)
  | wr8Bg3x0 (data : Byte)
  | wr8Bg3x1 (data : Byte)
  | wr8Bg3x2 (data : Byte)
  | wr8Bg3x3 (data : Byte)
  | wr16Bg3x0 (data : Half)
  | wr16Bg3x2 (data : Half)
  | wr8Bg3y0 (data : Byte)
  | wr8Bg3y1 (data : Byte)
  | wr8Bg3y2 (data : Byte)
  | wr8Bg3y3 (data : Byte)
  | wr16Bg3y0 (data : Half)
  | wr16Bg3y2 (data : Half)
  | wr8Win0h0 (data : Byte)
  | wr8Win0h1 (data : Byte)
  | wr16Win0h (data : Half)
  | wr8Win1h0 (data : Byte)
  | wr8Win1h1 (data : Byte)
  | wr16Win1h (data : Half)
  | wr8Win0v0 (data : Byte)
  | wr8Win0v1 (data : Byte)
  | wr16Win0v (data : Half)
  | wr8Win1v0 (data : Byte)
  | wr8Win1v1 (data : Byte)
  | wr16Win1v (data : Half)
  | wr8Winin0 (data : Byte)
  | wr8Winin1 (data : Byte)
  | wr16Winin (data : Half)
  | wr8Winout0 (data : Byte)
  | wr8Winout1 (data : Byte)
  | wr16Winout (data : Half)
  | wr8Mosaic0 (data : Byte)
  | wr8Mosaic1 (data : Byte)
  | wr16Mosaic (data : Half)
  | wr8Bldcnt0 (data : Byte)
  | wr8Bldcnt1 (data : Byte)
  | wr16Bldcnt (data : Half)
  | wr8Bldalpha0 (data : Byte)
  | wr8Bldalpha1 (data : Byte)
  | wr16Bldalpha (data : Half)
  | wr8Bldy0 (data : Byte)
  | wr8Bldy1 (data : Byte)
  | wr16Bldy (data : Half)
  | wr8Tm0cntL0 (data : Byte)
  | wr8Tm0cntL1 (data : Byte)
  | wr16Tm0cntL (data : Half)
  | wr8Tm0cntH0 (data : Byte)
  | wr8Tm0cntH1 (data : Byte)
  | wr16Tm0cntH (data : Half)
  | wr8Tm1cntL0 (data : Byte)
  | wr8Tm1cntL1 (data : Byte)
  | wr16Tm1cntL (data : Half)
  | wr8Tm1cntH0 (data : Byte)
  | wr8Tm1cntH1 (data : Byte)
  | wr16Tm1cntH (data : Half)
  | wr8Tm2cntL0 (data : Byte)
  | wr8Tm2cntL1 (data : Byte)
  | wr16Tm2cntL (data : Half)
  | wr8Tm2cntH0 (data : Byte)
  | wr8Tm2cntH1 (data : Byte)
  | wr16Tm2cntH (data : Half)
  | wr8Tm3cntL0 (data : Byte)
  | wr8Tm3cntL1 (data : Byte)
  | wr16Tm3cntL (data : Half)
  | wr8Tm3cntH0 (data : Byte)
  | wr8Tm3cntH1 (data : Byte)
  | wr16Tm3cntH (data : Half)
  | rd8Pram (offset : BitVec 10)
  | rd16Pram (offset : BitVec 10)
  | wr8Pram (offset : BitVec 10) (data : Byte)
  | wr16Pram (offset : BitVec 10) (data : Half)
  | rd8VramLo (offset : BitVec 16)
  | rd16VramLo (offset : BitVec 16)
  | wr8VramLo (offset : BitVec 16) (data : Byte)
  | wr16VramLo (offset : BitVec 16) (data : Half)
  | rd8VramHi (offset : BitVec 15)
  | rd16VramHi (offset : BitVec 15)
  | wr8VramHi (offset : BitVec 15) (data : Byte)
  | wr16VramHi (offset : BitVec 15) (data : Half)
  | rd8Oam (offset : BitVec 10)
  | rd16Oam (offset : BitVec 10)
  | wr8Oam (offset : BitVec 10) (data : Byte)
  | wr16Oam (offset : BitVec 10) (data : Half)
  | eScanline (late : BitVec 32)
  | eHblanksearch (late : BitVec 32)
  | eHblank (late : BitVec 32)
  | eVblankscanline (late : BitVec 32)
  | eVblankhblank (late : BitVec 32)
  | rst
  | rd8Dispcnt0
  | rd8Dispcnt1
  | rd16Dispcnt
  | rd8Dispstat0
  | rd8Dispstat1
  | rd16Dispstat
  | rd8Vcount0
  | rd8Vcount1
  | rd16Vcount
  | rd8Bg0cnt0
  | rd8Bg0cnt1
  | rd16Bg0cnt
  | rd8Bg1cnt0
  | rd8Bg1cnt1
  | rd16Bg1cnt
  | rd8Bg2cnt0
  | rd8Bg2cnt1
  | rd16Bg2cnt
  | rd8Bg3cnt0
  | rd8Bg3cnt1
  | rd16Bg3cnt
  | rd8Bg0hofs0
  | rd8Bg0hofs1
  | rd16Bg0hofs
  | rd8Bg0vofs0
  | rd8Bg0vofs1
  | rd16Bg0vofs
  | rd8Bg1hofs0
  | rd8Bg1hofs1
  | rd16Bg1hofs
  | rd8Bg1vofs0
  | rd8Bg1vofs1
  | rd16Bg1vofs
  | rd8Bg2hofs0
  | rd8Bg2hofs1
  | rd16Bg2hofs
  | rd8Bg2vofs0
  | rd8Bg2vofs1
  | rd16Bg2vofs
  | rd8Bg3hofs0
  | rd8Bg3hofs1
  | rd16Bg3hofs
  | rd8Bg3vofs0
  | rd8Bg3vofs1
  | rd16Bg3vofs
  | rd8Bg2pa0
  | rd8Bg2pa1
  | rd16Bg2pa
  | rd8Bg2pb0
  | rd8Bg2pb1
  | rd16Bg2pb
  | rd8Bg2pc0
  | rd8Bg2pc1
  | rd16Bg2pc
  | rd8Bg2pd0
  | rd8Bg2pd1
  | rd16Bg2pd
  | rd8Bg2x0
  | rd8Bg2x1
  | rd8Bg2x2
  | rd8Bg2x3
  | rd16Bg2x0
  | rd16Bg2x2
  | rd8Bg2y0
  | rd8Bg2y1
  | rd8Bg2y2
  | rd8Bg2y3
  | rd16Bg2y0
  | rd16Bg2y2
  | rd8Bg3pa0
  | rd8Bg3pa1
  | rd16Bg3pa
  | rd8Bg3pb0
  | rd8Bg3pb1
  | rd16Bg3pb
  | rd8Bg3pc0
  | rd8Bg3pc1
  | rd16Bg3pc
  | rd8Bg3pd0
  | rd8Bg3pd1
  | rd16Bg3pd
  | rd8Bg3x0
  | rd8Bg3x1
  | rd8Bg3x2
  | rd8Bg3x3
  | rd16Bg3x0
  | rd16Bg3x2
  | rd8Bg3y0
  | rd8Bg3y1
  | rd8Bg3y2
  | rd8Bg3y3
  | rd16Bg3y0
  | rd16Bg3y2
  | rd8Win0h0
  | rd8Win0h1
  | rd16Win0h
  | rd8Win1h0
  | rd8Win1h1
  | rd16Win1h
  | rd8Win0v0
  | rd8Win0v1
  | rd16Win0v
  | rd8Win1v0
  | rd8Win1v1
  | rd16Win1v
  | rd8Winin0
  | rd8Winin1
  | rd16Winin
  | rd8Winout0
  | rd8Winout1
  | rd16Winout
  | rd8Mosaic0
  | rd8Mosaic1
  | rd16Mosaic
  | rd8Bldcnt0
  | rd8Bldcnt1
  | rd16Bldcnt
  | rd8Bldalpha0
  | rd8Bldalpha1
  | rd16Bldalpha
  | rd8Bldy0
  | rd8Bldy1
  | rd16Bldy
  | rd8Tm0cntL0
  | rd8Tm0cntL1
  | rd16Tm0cntL
  | rd8Tm0cntH0
  | rd8Tm0cntH1
  | rd16Tm0cntH
  | rd8Tm1cntL0
  | rd8Tm1cntL1
  | rd16Tm1cntL
  | rd8Tm1cntH0
  | rd8Tm1cntH1
  | rd16Tm1cntH
  | rd8Tm2cntL0
  | rd8Tm2cntL1
  | rd16Tm2cntL
  | rd8Tm2cntH0
  | rd8Tm2cntH1
  | rd16Tm2cntH
  | rd8Tm3cntL0
  | rd8Tm3cntL1
  | rd16Tm3cntL
  | rd8Tm3cntH0
  | rd8Tm3cntH1
  | rd16Tm3cntH
  | eReserved5
  | eReserved6
  | eReserved7
  deriving DecidableEq, Repr

end Sys2Proof
end

