-- ==== Sys2Proof/Decode.lean ====
section
/-! DEFINITION. Decode.lean: decoding, total on any command word or event tag, and the encoder.
The spec's instructions are 64-bit command words (R111, R112) and 3-bit event tags (R110). -/

namespace Sys2Proof

open Sys2Proof.Machine

/-- What is fetched: a command word from the host, or an event from the scheduler's queue with its lateness. -/
inductive Fetched where
  | command (w : Word64)
  | event (tag : BitVec 3) (late : BitVec 32)
  deriving DecidableEq, Repr

/-- Why a command word spells no command (R150). -/
inductive DecodeError where
  /-- Opcodes 0x6 to 0xF (R112). -/
  | reservedOpcode
  /-- A must-be-zero bit is not zero (R111). -/
  | mustBeZero
  /-- ADV with `delta` over 0x7FFFFC00 (R113). -/
  | deltaOverBound
  deriving DecidableEq, Repr

/-- The phase a 3-bit code names (R24, R110). -/
def Phase.ofCode (c : BitVec 3) : Phase :=
  match c.toNat with
  | 0 => .scanline
  | 1 => .hblankSearch
  | 2 => .hblank
  | 3 => .vblankScanline
  | 4 => .vblankHblank
  | 5 => .code5
  | 6 => .code6
  | _ => .code7

/-- The 3-bit code of a phase (R24, R110). -/
def Phase.code : Phase → BitVec 3
  | .scanline => 0
  | .hblankSearch => 1
  | .hblank => 2
  | .vblankScanline => 3
  | .vblankHblank => 4
  | .code5 => 5
  | .code6 => 6
  | .code7 => 7

/-- The event that fires at the end of a phase, with its lateness (R110, R176). -/
def eventOf (p : Phase) (late : BitVec 32) : Instr :=
  match p with
  | .scanline => .eScanline late
  | .hblankSearch => .eHblanksearch late
  | .hblank => .eHblank late
  | .vblankScanline => .eVblankscanline late
  | .vblankHblank => .eVblankhblank late
  | .code5 => .eReserved5
  | .code6 => .eReserved6
  | .code7 => .eReserved7

/-! ## The fields of a command word (R111) -/

def wordOp (w : Word64) : BitVec 4 := w.extractLsb' 60 4
def wordAddr (w : Word64) : BitVec 32 := w.extractLsb' 28 32
def wordZero (w : Word64) : BitVec 12 := w.extractLsb' 16 12
def wordData (w : Word64) : Half := w.extractLsb' 0 16
def wordDelta (w : Word64) : BitVec 32 := w.extractLsb' 0 32

/-- Bits 59:32, which ADV requires to be zero (R111). -/
def wordAdvZero (w : Word64) : BitVec 28 := w.extractLsb' 32 28

/-! ## The row of a bus command at a decoded location (opcode table, R120, R122) -/

/-- Row RD8 of a register byte. -/
def rd8At : Reg → Lane → Instr
  | .dispcnt, .lo => .rd8Dispcnt0
  | .dispcnt, .hi => .rd8Dispcnt1
  | .dispstat, .lo => .rd8Dispstat0
  | .dispstat, .hi => .rd8Dispstat1
  | .vcount, .lo => .rd8Vcount0
  | .vcount, .hi => .rd8Vcount1
  | .bgcnt .n0, .lo => .rd8Bg0cnt0
  | .bgcnt .n0, .hi => .rd8Bg0cnt1
  | .bgcnt .n1, .lo => .rd8Bg1cnt0
  | .bgcnt .n1, .hi => .rd8Bg1cnt1
  | .bgcnt .n2, .lo => .rd8Bg2cnt0
  | .bgcnt .n2, .hi => .rd8Bg2cnt1
  | .bgcnt .n3, .lo => .rd8Bg3cnt0
  | .bgcnt .n3, .hi => .rd8Bg3cnt1
  | .bghofs .n0, .lo => .rd8Bg0hofs0
  | .bghofs .n0, .hi => .rd8Bg0hofs1
  | .bgvofs .n0, .lo => .rd8Bg0vofs0
  | .bgvofs .n0, .hi => .rd8Bg0vofs1
  | .bghofs .n1, .lo => .rd8Bg1hofs0
  | .bghofs .n1, .hi => .rd8Bg1hofs1
  | .bgvofs .n1, .lo => .rd8Bg1vofs0
  | .bgvofs .n1, .hi => .rd8Bg1vofs1
  | .bghofs .n2, .lo => .rd8Bg2hofs0
  | .bghofs .n2, .hi => .rd8Bg2hofs1
  | .bgvofs .n2, .lo => .rd8Bg2vofs0
  | .bgvofs .n2, .hi => .rd8Bg2vofs1
  | .bghofs .n3, .lo => .rd8Bg3hofs0
  | .bghofs .n3, .hi => .rd8Bg3hofs1
  | .bgvofs .n3, .lo => .rd8Bg3vofs0
  | .bgvofs .n3, .hi => .rd8Bg3vofs1
  | .bgpa .n0, .lo => .rd8Bg2pa0
  | .bgpa .n0, .hi => .rd8Bg2pa1
  | .bgpb .n0, .lo => .rd8Bg2pb0
  | .bgpb .n0, .hi => .rd8Bg2pb1
  | .bgpc .n0, .lo => .rd8Bg2pc0
  | .bgpc .n0, .hi => .rd8Bg2pc1
  | .bgpd .n0, .lo => .rd8Bg2pd0
  | .bgpd .n0, .hi => .rd8Bg2pd1
  | .bgxLow .n0, .lo => .rd8Bg2x0
  | .bgxLow .n0, .hi => .rd8Bg2x1
  | .bgxHigh .n0, .lo => .rd8Bg2x2
  | .bgxHigh .n0, .hi => .rd8Bg2x3
  | .bgyLow .n0, .lo => .rd8Bg2y0
  | .bgyLow .n0, .hi => .rd8Bg2y1
  | .bgyHigh .n0, .lo => .rd8Bg2y2
  | .bgyHigh .n0, .hi => .rd8Bg2y3
  | .bgpa .n1, .lo => .rd8Bg3pa0
  | .bgpa .n1, .hi => .rd8Bg3pa1
  | .bgpb .n1, .lo => .rd8Bg3pb0
  | .bgpb .n1, .hi => .rd8Bg3pb1
  | .bgpc .n1, .lo => .rd8Bg3pc0
  | .bgpc .n1, .hi => .rd8Bg3pc1
  | .bgpd .n1, .lo => .rd8Bg3pd0
  | .bgpd .n1, .hi => .rd8Bg3pd1
  | .bgxLow .n1, .lo => .rd8Bg3x0
  | .bgxLow .n1, .hi => .rd8Bg3x1
  | .bgxHigh .n1, .lo => .rd8Bg3x2
  | .bgxHigh .n1, .hi => .rd8Bg3x3
  | .bgyLow .n1, .lo => .rd8Bg3y0
  | .bgyLow .n1, .hi => .rd8Bg3y1
  | .bgyHigh .n1, .lo => .rd8Bg3y2
  | .bgyHigh .n1, .hi => .rd8Bg3y3
  | .winh .n0, .lo => .rd8Win0h0
  | .winh .n0, .hi => .rd8Win0h1
  | .winh .n1, .lo => .rd8Win1h0
  | .winh .n1, .hi => .rd8Win1h1
  | .winv .n0, .lo => .rd8Win0v0
  | .winv .n0, .hi => .rd8Win0v1
  | .winv .n1, .lo => .rd8Win1v0
  | .winv .n1, .hi => .rd8Win1v1
  | .winin, .lo => .rd8Winin0
  | .winin, .hi => .rd8Winin1
  | .winout, .lo => .rd8Winout0
  | .winout, .hi => .rd8Winout1
  | .mosaic, .lo => .rd8Mosaic0
  | .mosaic, .hi => .rd8Mosaic1
  | .bldcnt, .lo => .rd8Bldcnt0
  | .bldcnt, .hi => .rd8Bldcnt1
  | .bldalpha, .lo => .rd8Bldalpha0
  | .bldalpha, .hi => .rd8Bldalpha1
  | .bldy, .lo => .rd8Bldy0
  | .bldy, .hi => .rd8Bldy1
  | .tmcntL .n0, .lo => .rd8Tm0cntL0
  | .tmcntL .n0, .hi => .rd8Tm0cntL1
  | .tmcntH .n0, .lo => .rd8Tm0cntH0
  | .tmcntH .n0, .hi => .rd8Tm0cntH1
  | .tmcntL .n1, .lo => .rd8Tm1cntL0
  | .tmcntL .n1, .hi => .rd8Tm1cntL1
  | .tmcntH .n1, .lo => .rd8Tm1cntH0
  | .tmcntH .n1, .hi => .rd8Tm1cntH1
  | .tmcntL .n2, .lo => .rd8Tm2cntL0
  | .tmcntL .n2, .hi => .rd8Tm2cntL1
  | .tmcntH .n2, .lo => .rd8Tm2cntH0
  | .tmcntH .n2, .hi => .rd8Tm2cntH1
  | .tmcntL .n3, .lo => .rd8Tm3cntL0
  | .tmcntL .n3, .hi => .rd8Tm3cntL1
  | .tmcntH .n3, .lo => .rd8Tm3cntH0
  | .tmcntH .n3, .hi => .rd8Tm3cntH1

/-- Row WR8 of a register byte. -/
def wr8At : Reg → Lane → Byte → Instr
  | .dispcnt, .lo => .wr8Dispcnt0
  | .dispcnt, .hi => .wr8Dispcnt1
  | .dispstat, .lo => .wr8Dispstat0
  | .dispstat, .hi => .wr8Dispstat1
  | .vcount, .lo => .wr8Vcount0
  | .vcount, .hi => .wr8Vcount1
  | .bgcnt .n0, .lo => .wr8Bg0cnt0
  | .bgcnt .n0, .hi => .wr8Bg0cnt1
  | .bgcnt .n1, .lo => .wr8Bg1cnt0
  | .bgcnt .n1, .hi => .wr8Bg1cnt1
  | .bgcnt .n2, .lo => .wr8Bg2cnt0
  | .bgcnt .n2, .hi => .wr8Bg2cnt1
  | .bgcnt .n3, .lo => .wr8Bg3cnt0
  | .bgcnt .n3, .hi => .wr8Bg3cnt1
  | .bghofs .n0, .lo => .wr8Bg0hofs0
  | .bghofs .n0, .hi => .wr8Bg0hofs1
  | .bgvofs .n0, .lo => .wr8Bg0vofs0
  | .bgvofs .n0, .hi => .wr8Bg0vofs1
  | .bghofs .n1, .lo => .wr8Bg1hofs0
  | .bghofs .n1, .hi => .wr8Bg1hofs1
  | .bgvofs .n1, .lo => .wr8Bg1vofs0
  | .bgvofs .n1, .hi => .wr8Bg1vofs1
  | .bghofs .n2, .lo => .wr8Bg2hofs0
  | .bghofs .n2, .hi => .wr8Bg2hofs1
  | .bgvofs .n2, .lo => .wr8Bg2vofs0
  | .bgvofs .n2, .hi => .wr8Bg2vofs1
  | .bghofs .n3, .lo => .wr8Bg3hofs0
  | .bghofs .n3, .hi => .wr8Bg3hofs1
  | .bgvofs .n3, .lo => .wr8Bg3vofs0
  | .bgvofs .n3, .hi => .wr8Bg3vofs1
  | .bgpa .n0, .lo => .wr8Bg2pa0
  | .bgpa .n0, .hi => .wr8Bg2pa1
  | .bgpb .n0, .lo => .wr8Bg2pb0
  | .bgpb .n0, .hi => .wr8Bg2pb1
  | .bgpc .n0, .lo => .wr8Bg2pc0
  | .bgpc .n0, .hi => .wr8Bg2pc1
  | .bgpd .n0, .lo => .wr8Bg2pd0
  | .bgpd .n0, .hi => .wr8Bg2pd1
  | .bgxLow .n0, .lo => .wr8Bg2x0
  | .bgxLow .n0, .hi => .wr8Bg2x1
  | .bgxHigh .n0, .lo => .wr8Bg2x2
  | .bgxHigh .n0, .hi => .wr8Bg2x3
  | .bgyLow .n0, .lo => .wr8Bg2y0
  | .bgyLow .n0, .hi => .wr8Bg2y1
  | .bgyHigh .n0, .lo => .wr8Bg2y2
  | .bgyHigh .n0, .hi => .wr8Bg2y3
  | .bgpa .n1, .lo => .wr8Bg3pa0
  | .bgpa .n1, .hi => .wr8Bg3pa1
  | .bgpb .n1, .lo => .wr8Bg3pb0
  | .bgpb .n1, .hi => .wr8Bg3pb1
  | .bgpc .n1, .lo => .wr8Bg3pc0
  | .bgpc .n1, .hi => .wr8Bg3pc1
  | .bgpd .n1, .lo => .wr8Bg3pd0
  | .bgpd .n1, .hi => .wr8Bg3pd1
  | .bgxLow .n1, .lo => .wr8Bg3x0
  | .bgxLow .n1, .hi => .wr8Bg3x1
  | .bgxHigh .n1, .lo => .wr8Bg3x2
  | .bgxHigh .n1, .hi => .wr8Bg3x3
  | .bgyLow .n1, .lo => .wr8Bg3y0
  | .bgyLow .n1, .hi => .wr8Bg3y1
  | .bgyHigh .n1, .lo => .wr8Bg3y2
  | .bgyHigh .n1, .hi => .wr8Bg3y3
  | .winh .n0, .lo => .wr8Win0h0
  | .winh .n0, .hi => .wr8Win0h1
  | .winh .n1, .lo => .wr8Win1h0
  | .winh .n1, .hi => .wr8Win1h1
  | .winv .n0, .lo => .wr8Win0v0
  | .winv .n0, .hi => .wr8Win0v1
  | .winv .n1, .lo => .wr8Win1v0
  | .winv .n1, .hi => .wr8Win1v1
  | .winin, .lo => .wr8Winin0
  | .winin, .hi => .wr8Winin1
  | .winout, .lo => .wr8Winout0
  | .winout, .hi => .wr8Winout1
  | .mosaic, .lo => .wr8Mosaic0
  | .mosaic, .hi => .wr8Mosaic1
  | .bldcnt, .lo => .wr8Bldcnt0
  | .bldcnt, .hi => .wr8Bldcnt1
  | .bldalpha, .lo => .wr8Bldalpha0
  | .bldalpha, .hi => .wr8Bldalpha1
  | .bldy, .lo => .wr8Bldy0
  | .bldy, .hi => .wr8Bldy1
  | .tmcntL .n0, .lo => .wr8Tm0cntL0
  | .tmcntL .n0, .hi => .wr8Tm0cntL1
  | .tmcntH .n0, .lo => .wr8Tm0cntH0
  | .tmcntH .n0, .hi => .wr8Tm0cntH1
  | .tmcntL .n1, .lo => .wr8Tm1cntL0
  | .tmcntL .n1, .hi => .wr8Tm1cntL1
  | .tmcntH .n1, .lo => .wr8Tm1cntH0
  | .tmcntH .n1, .hi => .wr8Tm1cntH1
  | .tmcntL .n2, .lo => .wr8Tm2cntL0
  | .tmcntL .n2, .hi => .wr8Tm2cntL1
  | .tmcntH .n2, .lo => .wr8Tm2cntH0
  | .tmcntH .n2, .hi => .wr8Tm2cntH1
  | .tmcntL .n3, .lo => .wr8Tm3cntL0
  | .tmcntL .n3, .hi => .wr8Tm3cntL1
  | .tmcntH .n3, .lo => .wr8Tm3cntH0
  | .tmcntH .n3, .hi => .wr8Tm3cntH1

/-- Row RD16 of a register halfword. -/
def rd16At : Reg → Instr
  | .dispcnt => .rd16Dispcnt
  | .dispstat => .rd16Dispstat
  | .vcount => .rd16Vcount
  | .bgcnt .n0 => .rd16Bg0cnt
  | .bgcnt .n1 => .rd16Bg1cnt
  | .bgcnt .n2 => .rd16Bg2cnt
  | .bgcnt .n3 => .rd16Bg3cnt
  | .bghofs .n0 => .rd16Bg0hofs
  | .bgvofs .n0 => .rd16Bg0vofs
  | .bghofs .n1 => .rd16Bg1hofs
  | .bgvofs .n1 => .rd16Bg1vofs
  | .bghofs .n2 => .rd16Bg2hofs
  | .bgvofs .n2 => .rd16Bg2vofs
  | .bghofs .n3 => .rd16Bg3hofs
  | .bgvofs .n3 => .rd16Bg3vofs
  | .bgpa .n0 => .rd16Bg2pa
  | .bgpb .n0 => .rd16Bg2pb
  | .bgpc .n0 => .rd16Bg2pc
  | .bgpd .n0 => .rd16Bg2pd
  | .bgxLow .n0 => .rd16Bg2x0
  | .bgxHigh .n0 => .rd16Bg2x2
  | .bgyLow .n0 => .rd16Bg2y0
  | .bgyHigh .n0 => .rd16Bg2y2
  | .bgpa .n1 => .rd16Bg3pa
  | .bgpb .n1 => .rd16Bg3pb
  | .bgpc .n1 => .rd16Bg3pc
  | .bgpd .n1 => .rd16Bg3pd
  | .bgxLow .n1 => .rd16Bg3x0
  | .bgxHigh .n1 => .rd16Bg3x2
  | .bgyLow .n1 => .rd16Bg3y0
  | .bgyHigh .n1 => .rd16Bg3y2
  | .winh .n0 => .rd16Win0h
  | .winh .n1 => .rd16Win1h
  | .winv .n0 => .rd16Win0v
  | .winv .n1 => .rd16Win1v
  | .winin => .rd16Winin
  | .winout => .rd16Winout
  | .mosaic => .rd16Mosaic
  | .bldcnt => .rd16Bldcnt
  | .bldalpha => .rd16Bldalpha
  | .bldy => .rd16Bldy
  | .tmcntL .n0 => .rd16Tm0cntL
  | .tmcntH .n0 => .rd16Tm0cntH
  | .tmcntL .n1 => .rd16Tm1cntL
  | .tmcntH .n1 => .rd16Tm1cntH
  | .tmcntL .n2 => .rd16Tm2cntL
  | .tmcntH .n2 => .rd16Tm2cntH
  | .tmcntL .n3 => .rd16Tm3cntL
  | .tmcntH .n3 => .rd16Tm3cntH

/-- Row WR16 of a register halfword. -/
def wr16At : Reg → Half → Instr
  | .dispcnt => .wr16Dispcnt
  | .dispstat => .wr16Dispstat
  | .vcount => .wr16Vcount
  | .bgcnt .n0 => .wr16Bg0cnt
  | .bgcnt .n1 => .wr16Bg1cnt
  | .bgcnt .n2 => .wr16Bg2cnt
  | .bgcnt .n3 => .wr16Bg3cnt
  | .bghofs .n0 => .wr16Bg0hofs
  | .bgvofs .n0 => .wr16Bg0vofs
  | .bghofs .n1 => .wr16Bg1hofs
  | .bgvofs .n1 => .wr16Bg1vofs
  | .bghofs .n2 => .wr16Bg2hofs
  | .bgvofs .n2 => .wr16Bg2vofs
  | .bghofs .n3 => .wr16Bg3hofs
  | .bgvofs .n3 => .wr16Bg3vofs
  | .bgpa .n0 => .wr16Bg2pa
  | .bgpb .n0 => .wr16Bg2pb
  | .bgpc .n0 => .wr16Bg2pc
  | .bgpd .n0 => .wr16Bg2pd
  | .bgxLow .n0 => .wr16Bg2x0
  | .bgxHigh .n0 => .wr16Bg2x2
  | .bgyLow .n0 => .wr16Bg2y0
  | .bgyHigh .n0 => .wr16Bg2y2
  | .bgpa .n1 => .wr16Bg3pa
  | .bgpb .n1 => .wr16Bg3pb
  | .bgpc .n1 => .wr16Bg3pc
  | .bgpd .n1 => .wr16Bg3pd
  | .bgxLow .n1 => .wr16Bg3x0
  | .bgxHigh .n1 => .wr16Bg3x2
  | .bgyLow .n1 => .wr16Bg3y0
  | .bgyHigh .n1 => .wr16Bg3y2
  | .winh .n0 => .wr16Win0h
  | .winh .n1 => .wr16Win1h
  | .winv .n0 => .wr16Win0v
  | .winv .n1 => .wr16Win1v
  | .winin => .wr16Winin
  | .winout => .wr16Winout
  | .mosaic => .wr16Mosaic
  | .bldcnt => .wr16Bldcnt
  | .bldalpha => .wr16Bldalpha
  | .bldy => .wr16Bldy
  | .tmcntL .n0 => .wr16Tm0cntL
  | .tmcntH .n0 => .wr16Tm0cntH
  | .tmcntL .n1 => .wr16Tm1cntL
  | .tmcntH .n1 => .wr16Tm1cntH
  | .tmcntL .n2 => .wr16Tm2cntL
  | .tmcntH .n2 => .wr16Tm2cntH
  | .tmcntL .n3 => .wr16Tm3cntL
  | .tmcntH .n3 => .wr16Tm3cntH

/-- Row RD8 of a memory region, at a byte offset. Bit 16 of a `vram` offset tells
the two row sets apart. -/
def rd8Mem (sp : Space) (off : Nat) : Instr :=
  match sp with
  | .pram => .rd8Pram (BitVec.ofNat 10 off)
  | .oam => .rd8Oam (BitVec.ofNat 10 off)
  | .vram =>
    if (BitVec.ofNat 17 off).msb then .rd8VramHi (BitVec.ofNat 15 off)
    else .rd8VramLo (BitVec.ofNat 16 off)

/-- Row RD16 of a memory region, at a byte offset. -/
def rd16Mem (sp : Space) (off : Nat) : Instr :=
  match sp with
  | .pram => .rd16Pram (BitVec.ofNat 10 off)
  | .oam => .rd16Oam (BitVec.ofNat 10 off)
  | .vram =>
    if (BitVec.ofNat 17 off).msb then .rd16VramHi (BitVec.ofNat 15 off)
    else .rd16VramLo (BitVec.ofNat 16 off)

/-- Row WR8 of a memory region, at a byte offset. -/
def wr8Mem (sp : Space) (off : Nat) (data : Byte) : Instr :=
  match sp with
  | .pram => .wr8Pram (BitVec.ofNat 10 off) data
  | .oam => .wr8Oam (BitVec.ofNat 10 off) data
  | .vram =>
    if (BitVec.ofNat 17 off).msb then .wr8VramHi (BitVec.ofNat 15 off) data
    else .wr8VramLo (BitVec.ofNat 16 off) data

/-- Row WR16 of a memory region, at a byte offset. -/
def wr16Mem (sp : Space) (off : Nat) (data : Half) : Instr :=
  match sp with
  | .pram => .wr16Pram (BitVec.ofNat 10 off) data
  | .oam => .wr16Oam (BitVec.ofNat 10 off) data
  | .vram =>
    if (BitVec.ofNat 17 off).msb then .wr16VramHi (BitVec.ofNat 15 off) data
    else .wr16VramLo (BitVec.ofNat 16 off) data

/-- RD8 at an address: the row that matches it, or the generic command where none does (R111). -/
def rd8Row (addr : BitVec 32) : Instr :=
  match decodeAddr addr with
  | some (.reg r lane) => rd8At r lane
  | some (.mem sp off) => rd8Mem sp off
  | none => .rd8 addr

/-- RD16 at an address. A register row is at an even address; an odd one is the generic command (R83). -/
def rd16Row (addr : BitVec 32) : Instr :=
  match decodeAddr addr with
  | some (.reg r .lo) => rd16At r
  | some (.reg _ .hi) => .rd16 addr
  | some (.mem sp off) => rd16Mem sp off
  | none => .rd16 addr

/-- WR8 at an address. -/
def wr8Row (addr : BitVec 32) (data : Byte) : Instr :=
  match decodeAddr addr with
  | some (.reg r lane) => wr8At r lane data
  | some (.mem sp off) => wr8Mem sp off data
  | none => .wr8 addr data

/-- WR16 at an address. -/
def wr16Row (addr : BitVec 32) (data : Half) : Instr :=
  match decodeAddr addr with
  | some (.reg r .lo) => wr16At r data
  | some (.reg _ .hi) => .wr16 addr data
  | some (.mem sp off) => wr16Mem sp off data
  | none => .wr16 addr data

/-- The command a 64-bit word spells (R111 to R113), or why it spells none (R150). -/
def decodeCommand (w : Word64) : Except DecodeError Instr :=
  match (wordOp w).toNat with
  | 0 =>
    if wordAdvZero w = 0 then
      if (wordDelta w).toNat ≤ Config.maxDelta then .ok (.adv (wordDelta w)) else .error .deltaOverBound
    else .error .mustBeZero
  | 1 => if wordAddr w = 0 ∧ wordZero w = 0 ∧ wordData w = 0 then .ok .rst else .error .mustBeZero
  | 2 => if wordZero w = 0 ∧ wordData w = 0 then .ok (rd8Row (wordAddr w)) else .error .mustBeZero
  | 3 => if wordZero w = 0 ∧ wordData w = 0 then .ok (rd16Row (wordAddr w)) else .error .mustBeZero
  | 4 =>
    if wordZero w = 0 ∧ (wordData w).extractLsb' 8 8 = 0 then
      .ok (wr8Row (wordAddr w) ((wordData w).extractLsb' 0 8))
    else .error .mustBeZero
  | 5 => if wordZero w = 0 then .ok (wr16Row (wordAddr w) (wordData w)) else .error .mustBeZero
  | _ => .error .reservedOpcode

/-- Decoding, total: a command word (R111) or an event tag (R110). -/
def decode : Fetched → Except DecodeError Instr
  | .command w => decodeCommand w
  | .event tag late => .ok (eventOf (Phase.ofCode tag) late)

/-- What the decoder reads from an opcode-table word: 64 bits are a command word, a single byte is an event tag
whose operand `late` is zero. -/
def decodeTableWord (nbits w : Nat) : Option Instr :=
  if nbits = 64 then
    if w < 2 ^ 64 then (decode (.command (BitVec.ofNat 64 w))).toOption else none
  else if nbits ≤ 8 then
    if w < 8 then (decode (.event (BitVec.ofNat 3 w) 0)).toOption else none
  else none

/-! ## The encoder, from the opcode table's match values (R110 to R112, R120, R122) -/

/-- A bus command word from its fields (R111). -/
def busWord (op : BitVec 4) (addr : BitVec 32) (data : Half) : Word64 :=
  op ++ addr ++ (0#12) ++ data

/-- The data field of WR8 (R111: bits 15:8 zero). -/
def byteData (v : Byte) : Half := (0#8) ++ v

/-- The words of an instruction. The addresses stand as in the opcode table. -/
def encode : Instr → Fetched
  | .adv delta => .command ((0#32) ++ delta)
  | .rst => .command (busWord 1 0 0)
  | .rd8 addr => .command (busWord 2 addr 0)
  | .rd16 addr => .command (busWord 3 addr 0)
  | .wr8 addr data => .command (busWord 4 addr (byteData data))
  | .wr16 addr data => .command (busWord 5 addr data)
  | .wr8Dispcnt0 data => .command (busWord 4 0x04000000 (byteData data))
  | .rd8Dispcnt0 => .command (busWord 2 0x04000000 0)
  | .wr8Dispcnt1 data => .command (busWord 4 0x04000001 (byteData data))
  | .rd8Dispcnt1 => .command (busWord 2 0x04000001 0)
  | .wr16Dispcnt data => .command (busWord 5 0x04000000 data)
  | .rd16Dispcnt => .command (busWord 3 0x04000000 0)
  | .wr8Dispstat0 data => .command (busWord 4 0x04000004 (byteData data))
  | .rd8Dispstat0 => .command (busWord 2 0x04000004 0)
  | .wr8Dispstat1 data => .command (busWord 4 0x04000005 (byteData data))
  | .rd8Dispstat1 => .command (busWord 2 0x04000005 0)
  | .wr16Dispstat data => .command (busWord 5 0x04000004 data)
  | .rd16Dispstat => .command (busWord 3 0x04000004 0)
  | .wr8Vcount0 data => .command (busWord 4 0x04000006 (byteData data))
  | .rd8Vcount0 => .command (busWord 2 0x04000006 0)
  | .wr8Vcount1 data => .command (busWord 4 0x04000007 (byteData data))
  | .rd8Vcount1 => .command (busWord 2 0x04000007 0)
  | .wr16Vcount data => .command (busWord 5 0x04000006 data)
  | .rd16Vcount => .command (busWord 3 0x04000006 0)
  | .wr8Bg0cnt0 data => .command (busWord 4 0x04000008 (byteData data))
  | .rd8Bg0cnt0 => .command (busWord 2 0x04000008 0)
  | .wr8Bg0cnt1 data => .command (busWord 4 0x04000009 (byteData data))
  | .rd8Bg0cnt1 => .command (busWord 2 0x04000009 0)
  | .wr16Bg0cnt data => .command (busWord 5 0x04000008 data)
  | .rd16Bg0cnt => .command (busWord 3 0x04000008 0)
  | .wr8Bg1cnt0 data => .command (busWord 4 0x0400000A (byteData data))
  | .rd8Bg1cnt0 => .command (busWord 2 0x0400000A 0)
  | .wr8Bg1cnt1 data => .command (busWord 4 0x0400000B (byteData data))
  | .rd8Bg1cnt1 => .command (busWord 2 0x0400000B 0)
  | .wr16Bg1cnt data => .command (busWord 5 0x0400000A data)
  | .rd16Bg1cnt => .command (busWord 3 0x0400000A 0)
  | .wr8Bg2cnt0 data => .command (busWord 4 0x0400000C (byteData data))
  | .rd8Bg2cnt0 => .command (busWord 2 0x0400000C 0)
  | .wr8Bg2cnt1 data => .command (busWord 4 0x0400000D (byteData data))
  | .rd8Bg2cnt1 => .command (busWord 2 0x0400000D 0)
  | .wr16Bg2cnt data => .command (busWord 5 0x0400000C data)
  | .rd16Bg2cnt => .command (busWord 3 0x0400000C 0)
  | .wr8Bg3cnt0 data => .command (busWord 4 0x0400000E (byteData data))
  | .rd8Bg3cnt0 => .command (busWord 2 0x0400000E 0)
  | .wr8Bg3cnt1 data => .command (busWord 4 0x0400000F (byteData data))
  | .rd8Bg3cnt1 => .command (busWord 2 0x0400000F 0)
  | .wr16Bg3cnt data => .command (busWord 5 0x0400000E data)
  | .rd16Bg3cnt => .command (busWord 3 0x0400000E 0)
  | .wr8Bg0hofs0 data => .command (busWord 4 0x04000010 (byteData data))
  | .rd8Bg0hofs0 => .command (busWord 2 0x04000010 0)
  | .wr8Bg0hofs1 data => .command (busWord 4 0x04000011 (byteData data))
  | .rd8Bg0hofs1 => .command (busWord 2 0x04000011 0)
  | .wr16Bg0hofs data => .command (busWord 5 0x04000010 data)
  | .rd16Bg0hofs => .command (busWord 3 0x04000010 0)
  | .wr8Bg0vofs0 data => .command (busWord 4 0x04000012 (byteData data))
  | .rd8Bg0vofs0 => .command (busWord 2 0x04000012 0)
  | .wr8Bg0vofs1 data => .command (busWord 4 0x04000013 (byteData data))
  | .rd8Bg0vofs1 => .command (busWord 2 0x04000013 0)
  | .wr16Bg0vofs data => .command (busWord 5 0x04000012 data)
  | .rd16Bg0vofs => .command (busWord 3 0x04000012 0)
  | .wr8Bg1hofs0 data => .command (busWord 4 0x04000014 (byteData data))
  | .rd8Bg1hofs0 => .command (busWord 2 0x04000014 0)
  | .wr8Bg1hofs1 data => .command (busWord 4 0x04000015 (byteData data))
  | .rd8Bg1hofs1 => .command (busWord 2 0x04000015 0)
  | .wr16Bg1hofs data => .command (busWord 5 0x04000014 data)
  | .rd16Bg1hofs => .command (busWord 3 0x04000014 0)
  | .wr8Bg1vofs0 data => .command (busWord 4 0x04000016 (byteData data))
  | .rd8Bg1vofs0 => .command (busWord 2 0x04000016 0)
  | .wr8Bg1vofs1 data => .command (busWord 4 0x04000017 (byteData data))
  | .rd8Bg1vofs1 => .command (busWord 2 0x04000017 0)
  | .wr16Bg1vofs data => .command (busWord 5 0x04000016 data)
  | .rd16Bg1vofs => .command (busWord 3 0x04000016 0)
  | .wr8Bg2hofs0 data => .command (busWord 4 0x04000018 (byteData data))
  | .rd8Bg2hofs0 => .command (busWord 2 0x04000018 0)
  | .wr8Bg2hofs1 data => .command (busWord 4 0x04000019 (byteData data))
  | .rd8Bg2hofs1 => .command (busWord 2 0x04000019 0)
  | .wr16Bg2hofs data => .command (busWord 5 0x04000018 data)
  | .rd16Bg2hofs => .command (busWord 3 0x04000018 0)
  | .wr8Bg2vofs0 data => .command (busWord 4 0x0400001A (byteData data))
  | .rd8Bg2vofs0 => .command (busWord 2 0x0400001A 0)
  | .wr8Bg2vofs1 data => .command (busWord 4 0x0400001B (byteData data))
  | .rd8Bg2vofs1 => .command (busWord 2 0x0400001B 0)
  | .wr16Bg2vofs data => .command (busWord 5 0x0400001A data)
  | .rd16Bg2vofs => .command (busWord 3 0x0400001A 0)
  | .wr8Bg3hofs0 data => .command (busWord 4 0x0400001C (byteData data))
  | .rd8Bg3hofs0 => .command (busWord 2 0x0400001C 0)
  | .wr8Bg3hofs1 data => .command (busWord 4 0x0400001D (byteData data))
  | .rd8Bg3hofs1 => .command (busWord 2 0x0400001D 0)
  | .wr16Bg3hofs data => .command (busWord 5 0x0400001C data)
  | .rd16Bg3hofs => .command (busWord 3 0x0400001C 0)
  | .wr8Bg3vofs0 data => .command (busWord 4 0x0400001E (byteData data))
  | .rd8Bg3vofs0 => .command (busWord 2 0x0400001E 0)
  | .wr8Bg3vofs1 data => .command (busWord 4 0x0400001F (byteData data))
  | .rd8Bg3vofs1 => .command (busWord 2 0x0400001F 0)
  | .wr16Bg3vofs data => .command (busWord 5 0x0400001E data)
  | .rd16Bg3vofs => .command (busWord 3 0x0400001E 0)
  | .wr8Bg2pa0 data => .command (busWord 4 0x04000020 (byteData data))
  | .rd8Bg2pa0 => .command (busWord 2 0x04000020 0)
  | .wr8Bg2pa1 data => .command (busWord 4 0x04000021 (byteData data))
  | .rd8Bg2pa1 => .command (busWord 2 0x04000021 0)
  | .wr16Bg2pa data => .command (busWord 5 0x04000020 data)
  | .rd16Bg2pa => .command (busWord 3 0x04000020 0)
  | .wr8Bg2pb0 data => .command (busWord 4 0x04000022 (byteData data))
  | .rd8Bg2pb0 => .command (busWord 2 0x04000022 0)
  | .wr8Bg2pb1 data => .command (busWord 4 0x04000023 (byteData data))
  | .rd8Bg2pb1 => .command (busWord 2 0x04000023 0)
  | .wr16Bg2pb data => .command (busWord 5 0x04000022 data)
  | .rd16Bg2pb => .command (busWord 3 0x04000022 0)
  | .wr8Bg2pc0 data => .command (busWord 4 0x04000024 (byteData data))
  | .rd8Bg2pc0 => .command (busWord 2 0x04000024 0)
  | .wr8Bg2pc1 data => .command (busWord 4 0x04000025 (byteData data))
  | .rd8Bg2pc1 => .command (busWord 2 0x04000025 0)
  | .wr16Bg2pc data => .command (busWord 5 0x04000024 data)
  | .rd16Bg2pc => .command (busWord 3 0x04000024 0)
  | .wr8Bg2pd0 data => .command (busWord 4 0x04000026 (byteData data))
  | .rd8Bg2pd0 => .command (busWord 2 0x04000026 0)
  | .wr8Bg2pd1 data => .command (busWord 4 0x04000027 (byteData data))
  | .rd8Bg2pd1 => .command (busWord 2 0x04000027 0)
  | .wr16Bg2pd data => .command (busWord 5 0x04000026 data)
  | .rd16Bg2pd => .command (busWord 3 0x04000026 0)
  | .wr8Bg2x0 data => .command (busWord 4 0x04000028 (byteData data))
  | .rd8Bg2x0 => .command (busWord 2 0x04000028 0)
  | .wr8Bg2x1 data => .command (busWord 4 0x04000029 (byteData data))
  | .rd8Bg2x1 => .command (busWord 2 0x04000029 0)
  | .wr8Bg2x2 data => .command (busWord 4 0x0400002A (byteData data))
  | .rd8Bg2x2 => .command (busWord 2 0x0400002A 0)
  | .wr8Bg2x3 data => .command (busWord 4 0x0400002B (byteData data))
  | .rd8Bg2x3 => .command (busWord 2 0x0400002B 0)
  | .wr16Bg2x0 data => .command (busWord 5 0x04000028 data)
  | .rd16Bg2x0 => .command (busWord 3 0x04000028 0)
  | .wr16Bg2x2 data => .command (busWord 5 0x0400002A data)
  | .rd16Bg2x2 => .command (busWord 3 0x0400002A 0)
  | .wr8Bg2y0 data => .command (busWord 4 0x0400002C (byteData data))
  | .rd8Bg2y0 => .command (busWord 2 0x0400002C 0)
  | .wr8Bg2y1 data => .command (busWord 4 0x0400002D (byteData data))
  | .rd8Bg2y1 => .command (busWord 2 0x0400002D 0)
  | .wr8Bg2y2 data => .command (busWord 4 0x0400002E (byteData data))
  | .rd8Bg2y2 => .command (busWord 2 0x0400002E 0)
  | .wr8Bg2y3 data => .command (busWord 4 0x0400002F (byteData data))
  | .rd8Bg2y3 => .command (busWord 2 0x0400002F 0)
  | .wr16Bg2y0 data => .command (busWord 5 0x0400002C data)
  | .rd16Bg2y0 => .command (busWord 3 0x0400002C 0)
  | .wr16Bg2y2 data => .command (busWord 5 0x0400002E data)
  | .rd16Bg2y2 => .command (busWord 3 0x0400002E 0)
  | .wr8Bg3pa0 data => .command (busWord 4 0x04000030 (byteData data))
  | .rd8Bg3pa0 => .command (busWord 2 0x04000030 0)
  | .wr8Bg3pa1 data => .command (busWord 4 0x04000031 (byteData data))
  | .rd8Bg3pa1 => .command (busWord 2 0x04000031 0)
  | .wr16Bg3pa data => .command (busWord 5 0x04000030 data)
  | .rd16Bg3pa => .command (busWord 3 0x04000030 0)
  | .wr8Bg3pb0 data => .command (busWord 4 0x04000032 (byteData data))
  | .rd8Bg3pb0 => .command (busWord 2 0x04000032 0)
  | .wr8Bg3pb1 data => .command (busWord 4 0x04000033 (byteData data))
  | .rd8Bg3pb1 => .command (busWord 2 0x04000033 0)
  | .wr16Bg3pb data => .command (busWord 5 0x04000032 data)
  | .rd16Bg3pb => .command (busWord 3 0x04000032 0)
  | .wr8Bg3pc0 data => .command (busWord 4 0x04000034 (byteData data))
  | .rd8Bg3pc0 => .command (busWord 2 0x04000034 0)
  | .wr8Bg3pc1 data => .command (busWord 4 0x04000035 (byteData data))
  | .rd8Bg3pc1 => .command (busWord 2 0x04000035 0)
  | .wr16Bg3pc data => .command (busWord 5 0x04000034 data)
  | .rd16Bg3pc => .command (busWord 3 0x04000034 0)
  | .wr8Bg3pd0 data => .command (busWord 4 0x04000036 (byteData data))
  | .rd8Bg3pd0 => .command (busWord 2 0x04000036 0)
  | .wr8Bg3pd1 data => .command (busWord 4 0x04000037 (byteData data))
  | .rd8Bg3pd1 => .command (busWord 2 0x04000037 0)
  | .wr16Bg3pd data => .command (busWord 5 0x04000036 data)
  | .rd16Bg3pd => .command (busWord 3 0x04000036 0)
  | .wr8Bg3x0 data => .command (busWord 4 0x04000038 (byteData data))
  | .rd8Bg3x0 => .command (busWord 2 0x04000038 0)
  | .wr8Bg3x1 data => .command (busWord 4 0x04000039 (byteData data))
  | .rd8Bg3x1 => .command (busWord 2 0x04000039 0)
  | .wr8Bg3x2 data => .command (busWord 4 0x0400003A (byteData data))
  | .rd8Bg3x2 => .command (busWord 2 0x0400003A 0)
  | .wr8Bg3x3 data => .command (busWord 4 0x0400003B (byteData data))
  | .rd8Bg3x3 => .command (busWord 2 0x0400003B 0)
  | .wr16Bg3x0 data => .command (busWord 5 0x04000038 data)
  | .rd16Bg3x0 => .command (busWord 3 0x04000038 0)
  | .wr16Bg3x2 data => .command (busWord 5 0x0400003A data)
  | .rd16Bg3x2 => .command (busWord 3 0x0400003A 0)
  | .wr8Bg3y0 data => .command (busWord 4 0x0400003C (byteData data))
  | .rd8Bg3y0 => .command (busWord 2 0x0400003C 0)
  | .wr8Bg3y1 data => .command (busWord 4 0x0400003D (byteData data))
  | .rd8Bg3y1 => .command (busWord 2 0x0400003D 0)
  | .wr8Bg3y2 data => .command (busWord 4 0x0400003E (byteData data))
  | .rd8Bg3y2 => .command (busWord 2 0x0400003E 0)
  | .wr8Bg3y3 data => .command (busWord 4 0x0400003F (byteData data))
  | .rd8Bg3y3 => .command (busWord 2 0x0400003F 0)
  | .wr16Bg3y0 data => .command (busWord 5 0x0400003C data)
  | .rd16Bg3y0 => .command (busWord 3 0x0400003C 0)
  | .wr16Bg3y2 data => .command (busWord 5 0x0400003E data)
  | .rd16Bg3y2 => .command (busWord 3 0x0400003E 0)
  | .wr8Win0h0 data => .command (busWord 4 0x04000040 (byteData data))
  | .rd8Win0h0 => .command (busWord 2 0x04000040 0)
  | .wr8Win0h1 data => .command (busWord 4 0x04000041 (byteData data))
  | .rd8Win0h1 => .command (busWord 2 0x04000041 0)
  | .wr16Win0h data => .command (busWord 5 0x04000040 data)
  | .rd16Win0h => .command (busWord 3 0x04000040 0)
  | .wr8Win1h0 data => .command (busWord 4 0x04000042 (byteData data))
  | .rd8Win1h0 => .command (busWord 2 0x04000042 0)
  | .wr8Win1h1 data => .command (busWord 4 0x04000043 (byteData data))
  | .rd8Win1h1 => .command (busWord 2 0x04000043 0)
  | .wr16Win1h data => .command (busWord 5 0x04000042 data)
  | .rd16Win1h => .command (busWord 3 0x04000042 0)
  | .wr8Win0v0 data => .command (busWord 4 0x04000044 (byteData data))
  | .rd8Win0v0 => .command (busWord 2 0x04000044 0)
  | .wr8Win0v1 data => .command (busWord 4 0x04000045 (byteData data))
  | .rd8Win0v1 => .command (busWord 2 0x04000045 0)
  | .wr16Win0v data => .command (busWord 5 0x04000044 data)
  | .rd16Win0v => .command (busWord 3 0x04000044 0)
  | .wr8Win1v0 data => .command (busWord 4 0x04000046 (byteData data))
  | .rd8Win1v0 => .command (busWord 2 0x04000046 0)
  | .wr8Win1v1 data => .command (busWord 4 0x04000047 (byteData data))
  | .rd8Win1v1 => .command (busWord 2 0x04000047 0)
  | .wr16Win1v data => .command (busWord 5 0x04000046 data)
  | .rd16Win1v => .command (busWord 3 0x04000046 0)
  | .wr8Winin0 data => .command (busWord 4 0x04000048 (byteData data))
  | .rd8Winin0 => .command (busWord 2 0x04000048 0)
  | .wr8Winin1 data => .command (busWord 4 0x04000049 (byteData data))
  | .rd8Winin1 => .command (busWord 2 0x04000049 0)
  | .wr16Winin data => .command (busWord 5 0x04000048 data)
  | .rd16Winin => .command (busWord 3 0x04000048 0)
  | .wr8Winout0 data => .command (busWord 4 0x0400004A (byteData data))
  | .rd8Winout0 => .command (busWord 2 0x0400004A 0)
  | .wr8Winout1 data => .command (busWord 4 0x0400004B (byteData data))
  | .rd8Winout1 => .command (busWord 2 0x0400004B 0)
  | .wr16Winout data => .command (busWord 5 0x0400004A data)
  | .rd16Winout => .command (busWord 3 0x0400004A 0)
  | .wr8Mosaic0 data => .command (busWord 4 0x0400004C (byteData data))
  | .rd8Mosaic0 => .command (busWord 2 0x0400004C 0)
  | .wr8Mosaic1 data => .command (busWord 4 0x0400004D (byteData data))
  | .rd8Mosaic1 => .command (busWord 2 0x0400004D 0)
  | .wr16Mosaic data => .command (busWord 5 0x0400004C data)
  | .rd16Mosaic => .command (busWord 3 0x0400004C 0)
  | .wr8Bldcnt0 data => .command (busWord 4 0x04000050 (byteData data))
  | .rd8Bldcnt0 => .command (busWord 2 0x04000050 0)
  | .wr8Bldcnt1 data => .command (busWord 4 0x04000051 (byteData data))
  | .rd8Bldcnt1 => .command (busWord 2 0x04000051 0)
  | .wr16Bldcnt data => .command (busWord 5 0x04000050 data)
  | .rd16Bldcnt => .command (busWord 3 0x04000050 0)
  | .wr8Bldalpha0 data => .command (busWord 4 0x04000052 (byteData data))
  | .rd8Bldalpha0 => .command (busWord 2 0x04000052 0)
  | .wr8Bldalpha1 data => .command (busWord 4 0x04000053 (byteData data))
  | .rd8Bldalpha1 => .command (busWord 2 0x04000053 0)
  | .wr16Bldalpha data => .command (busWord 5 0x04000052 data)
  | .rd16Bldalpha => .command (busWord 3 0x04000052 0)
  | .wr8Bldy0 data => .command (busWord 4 0x04000054 (byteData data))
  | .rd8Bldy0 => .command (busWord 2 0x04000054 0)
  | .wr8Bldy1 data => .command (busWord 4 0x04000055 (byteData data))
  | .rd8Bldy1 => .command (busWord 2 0x04000055 0)
  | .wr16Bldy data => .command (busWord 5 0x04000054 data)
  | .rd16Bldy => .command (busWord 3 0x04000054 0)
  | .wr8Tm0cntL0 data => .command (busWord 4 0x04000100 (byteData data))
  | .rd8Tm0cntL0 => .command (busWord 2 0x04000100 0)
  | .wr8Tm0cntL1 data => .command (busWord 4 0x04000101 (byteData data))
  | .rd8Tm0cntL1 => .command (busWord 2 0x04000101 0)
  | .wr16Tm0cntL data => .command (busWord 5 0x04000100 data)
  | .rd16Tm0cntL => .command (busWord 3 0x04000100 0)
  | .wr8Tm0cntH0 data => .command (busWord 4 0x04000102 (byteData data))
  | .rd8Tm0cntH0 => .command (busWord 2 0x04000102 0)
  | .wr8Tm0cntH1 data => .command (busWord 4 0x04000103 (byteData data))
  | .rd8Tm0cntH1 => .command (busWord 2 0x04000103 0)
  | .wr16Tm0cntH data => .command (busWord 5 0x04000102 data)
  | .rd16Tm0cntH => .command (busWord 3 0x04000102 0)
  | .wr8Tm1cntL0 data => .command (busWord 4 0x04000104 (byteData data))
  | .rd8Tm1cntL0 => .command (busWord 2 0x04000104 0)
  | .wr8Tm1cntL1 data => .command (busWord 4 0x04000105 (byteData data))
  | .rd8Tm1cntL1 => .command (busWord 2 0x04000105 0)
  | .wr16Tm1cntL data => .command (busWord 5 0x04000104 data)
  | .rd16Tm1cntL => .command (busWord 3 0x04000104 0)
  | .wr8Tm1cntH0 data => .command (busWord 4 0x04000106 (byteData data))
  | .rd8Tm1cntH0 => .command (busWord 2 0x04000106 0)
  | .wr8Tm1cntH1 data => .command (busWord 4 0x04000107 (byteData data))
  | .rd8Tm1cntH1 => .command (busWord 2 0x04000107 0)
  | .wr16Tm1cntH data => .command (busWord 5 0x04000106 data)
  | .rd16Tm1cntH => .command (busWord 3 0x04000106 0)
  | .wr8Tm2cntL0 data => .command (busWord 4 0x04000108 (byteData data))
  | .rd8Tm2cntL0 => .command (busWord 2 0x04000108 0)
  | .wr8Tm2cntL1 data => .command (busWord 4 0x04000109 (byteData data))
  | .rd8Tm2cntL1 => .command (busWord 2 0x04000109 0)
  | .wr16Tm2cntL data => .command (busWord 5 0x04000108 data)
  | .rd16Tm2cntL => .command (busWord 3 0x04000108 0)
  | .wr8Tm2cntH0 data => .command (busWord 4 0x0400010A (byteData data))
  | .rd8Tm2cntH0 => .command (busWord 2 0x0400010A 0)
  | .wr8Tm2cntH1 data => .command (busWord 4 0x0400010B (byteData data))
  | .rd8Tm2cntH1 => .command (busWord 2 0x0400010B 0)
  | .wr16Tm2cntH data => .command (busWord 5 0x0400010A data)
  | .rd16Tm2cntH => .command (busWord 3 0x0400010A 0)
  | .wr8Tm3cntL0 data => .command (busWord 4 0x0400010C (byteData data))
  | .rd8Tm3cntL0 => .command (busWord 2 0x0400010C 0)
  | .wr8Tm3cntL1 data => .command (busWord 4 0x0400010D (byteData data))
  | .rd8Tm3cntL1 => .command (busWord 2 0x0400010D 0)
  | .wr16Tm3cntL data => .command (busWord 5 0x0400010C data)
  | .rd16Tm3cntL => .command (busWord 3 0x0400010C 0)
  | .wr8Tm3cntH0 data => .command (busWord 4 0x0400010E (byteData data))
  | .rd8Tm3cntH0 => .command (busWord 2 0x0400010E 0)
  | .wr8Tm3cntH1 data => .command (busWord 4 0x0400010F (byteData data))
  | .rd8Tm3cntH1 => .command (busWord 2 0x0400010F 0)
  | .wr16Tm3cntH data => .command (busWord 5 0x0400010E data)
  | .rd16Tm3cntH => .command (busWord 3 0x0400010E 0)
  | .rd8Pram offset => .command (busWord 2 (0x05000000 + offset.setWidth 32) 0)
  | .rd16Pram offset => .command (busWord 3 (0x05000000 + offset.setWidth 32) 0)
  | .wr8Pram offset data => .command (busWord 4 (0x05000000 + offset.setWidth 32) (byteData data))
  | .wr16Pram offset data => .command (busWord 5 (0x05000000 + offset.setWidth 32) data)
  | .rd8VramLo offset => .command (busWord 2 (0x06000000 + offset.setWidth 32) 0)
  | .rd16VramLo offset => .command (busWord 3 (0x06000000 + offset.setWidth 32) 0)
  | .wr8VramLo offset data => .command (busWord 4 (0x06000000 + offset.setWidth 32) (byteData data))
  | .wr16VramLo offset data => .command (busWord 5 (0x06000000 + offset.setWidth 32) data)
  | .rd8VramHi offset => .command (busWord 2 (0x06010000 + offset.setWidth 32) 0)
  | .rd16VramHi offset => .command (busWord 3 (0x06010000 + offset.setWidth 32) 0)
  | .wr8VramHi offset data => .command (busWord 4 (0x06010000 + offset.setWidth 32) (byteData data))
  | .wr16VramHi offset data => .command (busWord 5 (0x06010000 + offset.setWidth 32) data)
  | .rd8Oam offset => .command (busWord 2 (0x07000000 + offset.setWidth 32) 0)
  | .rd16Oam offset => .command (busWord 3 (0x07000000 + offset.setWidth 32) 0)
  | .wr8Oam offset data => .command (busWord 4 (0x07000000 + offset.setWidth 32) (byteData data))
  | .wr16Oam offset data => .command (busWord 5 (0x07000000 + offset.setWidth 32) data)
  | .eScanline late => .event 0 late
  | .eHblanksearch late => .event 1 late
  | .eHblank late => .event 2 late
  | .eVblankscanline late => .event 3 late
  | .eVblankhblank late => .event 4 late
  | .eReserved5 => .event 5 0
  | .eReserved6 => .event 6 0
  | .eReserved7 => .event 7 0

end Sys2Proof
end

