-- ==== Sys2Proof/Machine/State.lean ====
section
/-! DEFINITION. Machine/State.lean: the whole state of the block (10_state.md), its reset, the reasons a step stops. -/

namespace Sys2Proof.Machine

/-- The interface's own fault outcome. It has no constructor: no step of this model ends in it (safe).
The spec's four faults are recorded in `State.fault` and the machine goes on from there (R440, R441). -/
inductive Fault where
  deriving DecidableEq, Repr

/-- Why a step gives a command no meaning. -/
inductive Refusal where
  /-- An instruction that has no meaning yet, by its mnemonic. Raised by no arm of exec. Safe. -/
  | notModelled (mnemonic : String)
  /-- The word spells no command (R150). Raised by step. Safe: the spec refuses it. -/
  | illegalWord (why : DecodeError)
  /-- A bus command whose address matches no row (R81, R150, R445).
  Raised by the generic RD8, RD16, WR8, WR16. Safe: the spec refuses it. -/
  | undecodedAddress (addr : BitVec 32)
  /-- An ADV with `delta` over 0x7FFFFC00 (R113), a term that no word spells. Raised by ADV. Safe. -/
  | deltaOverBound
  /-- An ADV that would carry `sched.now` past 2^64 - 1 (R21). Raised by ADV. Safe: the spec refuses it. -/
  | cycleCounterOverflow
  deriving DecidableEq, Repr

/-- The fault codes of R442. -/
inductive FaultCode where
  | negativeDelay | phase | index | misaligned
  deriving DecidableEq, Repr

/-- A pending event (R22). -/
structure Event where
  fireCycle : Word64
  seq : Word64
  tag : Phase
  deriving DecidableEq, Repr

/-- Scheduler state (R21 to R23). -/
structure Sched where
  now : Word64
  queue : List Event
  nextSeq : Word64
  deriving DecidableEq, Repr

/-- Sequencer state (R24, R25). -/
structure Ppu where
  phase : Phase
  vcount : BitVec 8
  deriving DecidableEq, Repr

/-- `dispcnt` (R26). Bit `i` of `enable` is `dispcnt.enable[i]`. -/
structure Dispcnt where
  mode : BitVec 3
  cgbMode : Bool
  frame : Bool
  hblankOamAccess : Bool
  oamMapping1d : Bool
  forcedBlank : Bool
  enable : BitVec 8
  deriving DecidableEq, Repr

/-- `dispstat` (R27). -/
structure Dispstat where
  vblankFlag : Bool
  hblankFlag : Bool
  vcountFlag : Bool
  vblankIrqEnable : Bool
  hblankIrqEnable : Bool
  vcountIrqEnable : Bool
  vcountSetting : BitVec 8
  deriving DecidableEq, Repr

/-- `bgcnt[n]` (R28). -/
structure Bgcnt where
  priority : BitVec 2
  tileBlock : BitVec 2
  mosaicEnable : Bool
  fullPalette : Bool
  mapBlock : BitVec 5
  wraparound : Bool
  size : BitVec 2
  deriving DecidableEq, Repr

/-- `winh[w]` or `winv[w]` (R30). -/
structure WinRange where
  min : BitVec 8
  max : BitVec 8
  deriving DecidableEq, Repr

/-- One mosaic group: the size fields (R32) and the vertical counter (R33). -/
structure MosaicGroup where
  h : BitVec 4
  v : BitVec 4
  counterY : BitVec 4
  deriving DecidableEq, Repr

/-- `mosaic` (R32, R33). -/
structure Mosaic where
  bg : MosaicGroup
  obj : MosaicGroup
  deriving DecidableEq, Repr

/-- `bldcnt` (R34). Bit `i` of a mask is `targets[_][i]`. -/
structure Bldcnt where
  targets : Two (BitVec 6)
  sfx : BitVec 2
  deriving DecidableEq, Repr

/-- A reference point: the 28 bits of `initial` (R39) and the accumulator `current` (R40). -/
structure RefPoint where
  initial : BitVec 28
  current : BitVec 32
  deriving DecidableEq, Repr

/-- One timer (R50 to R53). `shift` and `mask` are computed from `frequency` (R52). -/
structure Timer where
  counter : BitVec 16
  reload : BitVec 16
  cycles : BitVec 32
  frequency : BitVec 2
  cascade : Bool
  interrupt : Bool
  enable : Bool
  overflow : Bool
  deriving DecidableEq, Repr

/-- A memory region: (offset, byte) pairs, offsets rising, no entry equal to 0, which an unlisted byte reads as
(R44 to R46: every byte is 0 after reset). -/
abbrev Memory := List Host.Cell

/-- The frame (R47): (row, its 240 pixels) pairs, rows rising. A row that is not listed holds no value. -/
abbrev Frame := List (Nat × List Pixel)

/-- Interrupt sources (R140). -/
inductive Source where
  | vblank | hblank | vcount | timer (k : Ix4)
  deriving DecidableEq, Repr

/-- DMA occasions (R141). -/
inductive Occasion where
  | hblank | vblank | video
  deriving DecidableEq, Repr

/-- Output events (R66, R142). -/
inductive Output where
  | raise (src : Source)
  | request (occ : Occasion)
  | stopVideoTransfer
  | draw (frame : Frame)
  | timerOverflow (id : Ix4) (n : Nat)
  deriving DecidableEq, Repr

/-- An output event with its stamps (R16): `sched.now`, and the `fire_cycle` of the phase event that made it. -/
structure OutRecord where
  what : Output
  now : Word64
  fire : Option Word64
  deriving DecidableEq, Repr

/-- The value a read command returned (R16). -/
inductive ReadValue where
  | byte (v : Byte)
  | half (v : Half)
  deriving DecidableEq, Repr

end Sys2Proof.Machine

namespace Sys2Proof.Machine

/-- The state of the block (R20) and the model's own four fields at the end. -/
@[ext]
structure State where
  sched : Sched
  ppu : Ppu
  dispcnt : Dispcnt
  dispstat : Dispstat
  bgcnt : Four Bgcnt
  bghofs : Four (BitVec 9)
  bgvofs : Four (BitVec 9)
  winh : Two WinRange
  winv : Two WinRange
  winin : Two (BitVec 6)
  winout : Two (BitVec 6)
  mosaic : Mosaic
  bldcnt : Bldcnt
  eva : BitVec 5
  evb : BitVec 5
  evy : BitVec 5
  bgpa : Two (BitVec 16)
  bgpb : Two (BitVec 16)
  bgpc : Two (BitVec 16)
  bgpd : Two (BitVec 16)
  bgx : Two RefPoint
  bgy : Two RefPoint
  pram : Memory
  oam : Memory
  vram : Memory
  frame : Frame
  tm : Four Timer
  fault : Option FaultCode
  out : List OutRecord
  /-- The model's own: command words the host has issued and the block has not taken (log entry 1). -/
  input : List Word64
  /-- The model's own: what the last read command returned (log entry 6). -/
  readout : Option ReadValue
  /-- The model's own: how many free values have been drawn (log entry 5). -/
  draws : Nat
  /-- The model's own: the OPEN parameters (log entry 4). -/
  params : Params
  deriving DecidableEq, Repr

/-- `dispcnt` after reset (R26, R70). -/
def Dispcnt.reset : Dispcnt := ⟨0, false, false, false, false, false, 0⟩

/-- `dispstat` after reset (R27, R70): `vcount_flag` is 0 although `vcount = vcount_setting`. -/
def Dispstat.reset : Dispstat := ⟨false, false, false, false, false, false, 0⟩

/-- `bgcnt[n]` after reset (R28, R70). -/
def Bgcnt.reset : Bgcnt := ⟨0, 0, false, false, 0, false, 0⟩

/-- A timer after reset (R50 to R53, R70). -/
def Timer.reset : Timer := ⟨0, 0, 0, 0, false, false, false, false⟩

/-- The state after reset: R70 (power-on, so `out` is empty), and the model's own fields (log entries 1, 4, 5, 6). -/
def State.reset : State where
  sched := ⟨0, [⟨960, 0, .scanline⟩], 1⟩
  ppu := ⟨.scanline, 0⟩
  dispcnt := Dispcnt.reset
  dispstat := Dispstat.reset
  bgcnt := Four.all Bgcnt.reset
  bghofs := Four.all 0
  bgvofs := Four.all 0
  winh := Two.both ⟨0, 0⟩
  winv := Two.both ⟨0, 0⟩
  winin := Two.both 0
  winout := Two.both 0
  mosaic := ⟨⟨0, 0, 0⟩, ⟨0, 0, 0⟩⟩
  bldcnt := ⟨Two.both 0, 0⟩
  eva := 0
  evb := 0
  evy := 0
  bgpa := Two.both 0x0100
  bgpb := Two.both 0
  bgpc := Two.both 0
  bgpd := Two.both 0x0100
  bgx := Two.both ⟨0, 0⟩
  bgy := Two.both ⟨0, 0⟩
  pram := []
  oam := []
  vram := []
  frame := []
  tm := Four.all Timer.reset
  fault := none
  out := []
  input := []
  readout := none
  draws := 0
  params := Params.default

end Sys2Proof.Machine
end

