-- ==== Sys2Proof/Machine/Ops.lean ====
section
/-! DEFINITION. Machine/Ops.lean: the shared operations: sparse tables, memory access, raising a fault, the output
trace, free values, the Scheduler's Add, the phase transition. -/

namespace Sys2Proof.Machine

/-! ## Tables with rising keys -/

/-- The value at a key, where the table lists one. -/
def lookupKey {α : Type} : List (Nat × α) → Nat → Option α
  | [], _ => none
  | (k, v) :: rest, a => if k = a then some v else lookupKey rest a

/-- Set the value at a key, keeping the keys rising. -/
def setKey {α : Type} : List (Nat × α) → Nat → α → List (Nat × α)
  | [], a, x => [(a, x)]
  | (k, v) :: rest, a, x =>
    if k < a then (k, v) :: setKey rest a x
    else if k = a then (a, x) :: rest
    else (a, x) :: (k, v) :: rest

/-- Take the entry of a key out. -/
def eraseKey {α : Type} : List (Nat × α) → Nat → List (Nat × α)
  | [], _ => []
  | (k, v) :: rest, a => if k = a then rest else (k, v) :: eraseKey rest a

/-- Are the keys strictly rising? -/
def keysRise {α : Type} : List (Nat × α) → Bool
  | [] => true
  | [_] => true
  | (k, _) :: (k', v') :: rest => decide (k < k') && keysRise ((k', v') :: rest)

/-! ## Memory regions (R44 to R46, R80, R82) -/

/-- What a byte that no entry lists reads as: the reset contents (R44 to R46). -/
def Memory.unlisted : Byte := 0

/-- The byte at an offset. -/
def Memory.read (m : Memory) (off : Nat) : Byte := (lookupKey m off).getD Memory.unlisted

/-- Store a byte, keeping the canonical form. -/
def Memory.write (m : Memory) (off : Nat) (v : Byte) : Memory :=
  if v = Memory.unlisted then eraseKey m off else setKey m off v

/-- The canonical form: offsets strictly rising, no entry equal to an unlisted byte. -/
def Memory.wf (m : Memory) : Bool := keysRise m && m.all fun c => c.2 != Memory.unlisted

/-- Every offset lies in the region (R44 to R46). -/
def Memory.within (size : Nat) (m : Memory) : Bool := m.all fun c => decide (c.1 < size)

/-- The contents of a region. -/
def State.mem (s : State) : Space → Memory
  | .pram => s.pram
  | .oam => s.oam
  | .vram => s.vram

/-- Replace the contents of a region. -/
def State.setMem (s : State) (sp : Space) (m : Memory) : State :=
  match sp with
  | .pram => { s with pram := m }
  | .oam => { s with oam := m }
  | .vram => { s with vram := m }

/-- A value read through an index, or `none` where the index lies outside its array (R87: `F_INDEX`). -/
abbrev Checked := Option

/-- `MemRead(space, off, 1)` (R9, R82, R87). -/
def memRead8 (s : State) (sp : Space) (off : Nat) : Checked Byte :=
  if off < Config.spaceSize sp then some ((s.mem sp).read off) else none

/-- `MemRead(space, off, 2)`, little-endian (R9, R82, R87). -/
def memRead16 (s : State) (sp : Space) (off : Nat) : Checked Half := do
  let lo ← memRead8 s sp off
  let hi ← memRead8 s sp (off + 1)
  return hi ++ lo

/-! ## Faults (R440, R441) -/

/-- Is the fault record set? -/
def State.faulted (s : State) : Bool := s.fault.isSome

/-- `raise Fault(code)` (R440): the first code is recorded, and nothing else changes. -/
def raiseFault (c : FaultCode) (s : State) : State :=
  match s.fault with
  | none => { s with fault := some c }
  | some _ => s

/-- Run the actions of an operation in order. A raised fault stops it where it stands, keeping what was done (R440);
with the record already set nothing runs (R441). -/
def runOps : List (State → State) → State → State
  | [], s => s
  | f :: fs, s => if s.faulted then s else runOps fs (f s)

/-- `MemWrite(space, off, 1, v)` (R9, R85, R87). -/
def memWrite8 (sp : Space) (off : Nat) (v : Byte) (s : State) : State :=
  if off < Config.spaceSize sp then s.setMem sp ((s.mem sp).write off v) else raiseFault .index s

/-! ## The output trace (R16, R66) -/

/-- Append one output event with its stamps. -/
def emit (what : Output) (fire : Option Word64) (s : State) : State :=
  { s with out := s.out ++ [⟨what, s.sched.now, fire⟩] }

/-- `Raise(src)` where the local enable is set (R451). -/
def raiseIf (enabled : Bool) (src : Source) (fire : Option Word64) (s : State) : State :=
  if enabled then emit (.raise src) fire s else s

/-- Source codes (R140). -/
def Source.code : Source → Nat
  | .vblank => 0
  | .hblank => 1
  | .vcount => 2
  | .timer k => 3 + k.toNat

/-- Occasion codes (R141). -/
def Occasion.code : Occasion → Nat
  | .hblank => 0
  | .vblank => 1
  | .video => 2

/-- Kinds of output records (R142). -/
def Output.kind : Output → Nat
  | .raise _ => 0
  | .request _ => 1
  | .stopVideoTransfer => 2
  | .draw _ => 3
  | .timerOverflow _ _ => 4

/-- Fault code numbers (R442). -/
def FaultCode.code : FaultCode → Nat
  | .negativeDelay => 1
  | .phase => 2
  | .index => 3
  | .misaligned => 4

/-! ## Free values (R242, R302, R441; log entry 5) -/

/-- Draw one unspecified byte. -/
def drawByte (s : State) : Byte × State :=
  (Config.freeByte s.draws, { s with draws := s.draws + 1 })

/-- Draw the unspecified pixels of a row (R302). -/
def drawRow (s : State) : List Pixel × State :=
  ((List.range Config.screenW).map fun x => Config.freePixel (s.draws + x),
   { s with draws := s.draws + Config.screenW })

/-! ## The frame (R47) -/

/-- The pixel of a row and column, or no value. -/
def Frame.pixel (f : Frame) (y x : Nat) : Option Pixel :=
  match lookupKey f y with
  | none => none
  | some row => row[x]?

/-- Write one row of the frame (R399, R400). -/
def writeRow (y : Nat) (row : List Pixel) (s : State) : State :=
  { s with frame := setKey s.frame y row }

/-- Row numbers rising and below 160, 240 pixels in each (R47). -/
def Frame.wf (f : Frame) : Bool :=
  keysRise f && f.all fun r => decide (r.1 < Config.nVisible) && decide (r.2.length = Config.screenW)

/-! ## The Scheduler (R171, R172) and the phase transition (R191) -/

/-- `(a.fire_cycle, a.seq) < (b.fire_cycle, b.seq)` (R171). -/
def Event.before (a b : Event) : Bool :=
  decide (a.fireCycle.toNat < b.fireCycle.toNat) ||
    (decide (a.fireCycle = b.fireCycle) && decide (a.seq.toNat < b.seq.toNat))

/-- Insert an event after every event that comes before it (R172). -/
def insertEvent (e : Event) : List Event → List Event
  | [] => [e]
  | x :: rest => if x.before e then x :: insertEvent e rest else e :: x :: rest

/-- `Add(delay, tag)` (R172, R173). -/
def schedAdd (delay : Int) (tag : Phase) (s : State) : State :=
  if delay < 0 then raiseFault .negativeDelay s
  else
    { s with
      sched :=
        { s.sched with
          queue := insertEvent ⟨s.sched.now + BitVec.ofInt 64 delay, s.sched.nextSeq, tag⟩ s.sched.queue
          nextSeq := s.sched.nextSeq + 1 } }

/-- `DUR` (R6, R190). The codes 5 to 7 name no phase and no rule reads their entry. -/
def phaseDur : Phase → Nat
  | .scanline => 960
  | .hblankSearch => 46
  | .hblank => 226
  | .vblankScanline => 1006
  | .vblankHblank => 226
  | .code5 => 0
  | .code6 => 0
  | .code7 => 0

/-- `Next(P, late)` (R191). -/
def nextPhase (p : Phase) (late : Int) (s : State) : State :=
  schedAdd ((phaseDur p : Int) - late) p { s with ppu := { s.ppu with phase := p } }

/-- The `fire_cycle` of the event that is being handled `late` cycles late (R174: `late = sched.now - fire_cycle`). -/
def firedAt (late : Int) (s : State) : Word64 := s.sched.now - BitVec.ofInt 64 late

/-! ## Reset (R480) -/

/-- `RST`: every piece of the spec's state at its reset value; `out` is left as it is.
The model's own fields stay too: the command stream, the last value read, the count of draws, the parameters. -/
def State.rst (s : State) : State :=
  { State.reset with
    out := s.out
    input := s.input
    readout := s.readout
    draws := s.draws
    params := s.params }

end Sys2Proof.Machine
end

