-- ==== Sys2Proof/Machine/Flags.lean ====
section
/-! DEFINITION. Machine/Flags.lean: every computation of a status flag (R58): the V-counter match, the HBlank and
VBlank flags, the timers' overflow flags. -/

namespace Sys2Proof.Machine

/-- `EvalVCount()` (R198). `fire` is the stamp of the phase event it runs in, if it runs in one. -/
def evalVCount (fire : Option Word64) (s : State) : State :=
  let m := decide (s.ppu.vcount = s.dispstat.vcountSetting)
  let s1 := raiseIf (s.dispstat.vcountIrqEnable && !s.dispstat.vcountFlag && m) .vcount fire s
  { s1 with dispstat := { s1.dispstat with vcountFlag := m } }

/-- Write `dispstat.hblank_flag` (R193 to R196). -/
def setHblankFlag (b : Bool) (s : State) : State :=
  { s with dispstat := { s.dispstat with hblankFlag := b } }

/-- Write `dispstat.vblank_flag` (R194, R196). -/
def setVblankFlag (b : Bool) (s : State) : State :=
  { s with dispstat := { s.dispstat with vblankFlag := b } }

/-- Replace a timer. -/
def setTimer (id : Ix4) (t : Timer) (s : State) : State :=
  { s with tm := s.tm.set id t }

/-- Write `tm[id].overflow` (R415). -/
def setOverflow (id : Ix4) (b : Bool) (s : State) : State :=
  setTimer id { s.tm.get id with overflow := b } s

/-- All four overflow flags cleared at the end of a step (R411, R416). -/
def clearOverflows (s : State) : State :=
  setOverflow .n3 false (setOverflow .n2 false (setOverflow .n1 false (setOverflow .n0 false s)))

end Sys2Proof.Machine
end

