-- ==== Sys2Proof/Machine/Operands.lean ====
section
/-! DEFINITION. Machine/Operands.lean: the operand forms (R166) and, register byte by register byte, what a bus read
returns and what a bus write changes (R232 to R273, layouts R124 to R137). -/

namespace Sys2Proof.Machine

/-! ## Byte lanes of wider fields -/

/-- Replace bits 7:0 of a halfword. -/
def setLow (h : Half) (v : Byte) : Half := h.extractLsb' 8 8 ++ v

/-- Replace bits 15:8 of a halfword. -/
def setHigh (h : Half) (v : Byte) : Half := v ++ h.extractLsb' 0 8

/-- Bits 7:0 or 15:8 of a halfword. -/
def laneOf (h : Half) : Lane → Byte
  | .lo => h.extractLsb' 0 8
  | .hi => h.extractLsb' 8 8

/-- Replace one byte of a halfword. -/
def setLane (h : Half) (lane : Lane) (v : Byte) : Half :=
  match lane with
  | .lo => setLow h v
  | .hi => setHigh h v

/-- A scroll offset: bits 7:0 from byte 0, bit 8 from bit 0 of byte 1 (R241). -/
def setScroll (x : BitVec 9) (lane : Lane) (v : Byte) : BitVec 9 :=
  match lane with
  | .lo => x.extractLsb' 8 1 ++ v
  | .hi => v.extractLsb' 0 1 ++ x.extractLsb' 0 8

/-- Bytes 0 and 1 of a 28-bit reference point (R244). -/
def setRefLow (r : BitVec 28) (lane : Lane) (v : Byte) : BitVec 28 :=
  match lane with
  | .lo => r.extractLsb' 8 20 ++ v
  | .hi => r.extractLsb' 16 12 ++ v ++ r.extractLsb' 0 8

/-- Bytes 2 and 3 of a 28-bit reference point; byte 3 gives its low 4 bits only (R244). -/
def setRefHigh (r : BitVec 28) (lane : Lane) (v : Byte) : BitVec 28 :=
  match lane with
  | .lo => r.extractLsb' 24 4 ++ v ++ r.extractLsb' 0 16
  | .hi => v.extractLsb' 0 4 ++ r.extractLsb' 0 24

/-- A window range: byte 0 is `max`, byte 1 is `min` (R131, R245). -/
def setWinRange (r : WinRange) (lane : Lane) (v : Byte) : WinRange :=
  match lane with
  | .lo => { r with max := v }
  | .hi => { r with min := v }

/-- A pair of layer masks: byte `j` is `enable[j]`, bits 7:6 discarded (R246). -/
def setMaskPair (m : Two (BitVec 6)) (lane : Lane) (v : Byte) : Two (BitVec 6) :=
  match lane with
  | .lo => m.set .n0 (v.extractLsb' 0 6)
  | .hi => m.set .n1 (v.extractLsb' 0 6)

/-- Byte `j` of a pair of layer masks, bits 7:6 zero (R246). -/
def readMaskPair (m : Two (BitVec 6)) (lane : Lane) : Byte :=
  match lane with
  | .lo => (0#2) ++ m.get .n0
  | .hi => (0#2) ++ m.get .n1

/-! ## Assembled operands (R166) -/

/-- Mosaic sizes: field plus 1 (R32). -/
def MosaicGroup.sizeX (g : MosaicGroup) : Nat := g.h.toNat + 1
def MosaicGroup.sizeY (g : MosaicGroup) : Nat := g.v.toNat + 1

/-- Blend factors are clamped to 16 at every use (R391). -/
def clampFactor (f : BitVec 5) : Nat := min 16 f.toNat

/-- `tile_base` (R166). -/
def Bgcnt.tileBase (c : Bgcnt) : Nat := 0x4000 * c.tileBlock.toNat

/-- `map_base` (R166). -/
def Bgcnt.mapBase (c : Bgcnt) : Nat := 0x800 * c.mapBlock.toNat

/-- `SHIFT[frequency]` (R52). -/
def prescaleShift (f : BitVec 2) : Nat :=
  match f.toNat with
  | 0 => 0
  | 1 => 6
  | 2 => 8
  | _ => 10

/-- `MASK[frequency]` (R52). -/
def prescaleMask (f : BitVec 2) : Nat :=
  match f.toNat with
  | 0 => 0x000
  | 1 => 0x03F
  | 2 => 0x0FF
  | _ => 0x3FF

/-- `dispcnt.mode` in `RELOAD_MODES = {1, 2}` (R232). -/
def reloadMode (m : BitVec 3) : Bool := decide (m = 1) || decide (m = 2)

/-- `ReloadAffine()` (R204): each accumulator takes `sext_28(initial)` widened to 32 bits. -/
def RefPoint.reload (p : RefPoint) : RefPoint := { p with current := p.initial.signExtend 32 }

def reloadAffine (s : State) : State :=
  { s with
    bgx := ⟨s.bgx.e0.reload, s.bgx.e1.reload⟩
    bgy := ⟨s.bgy.e0.reload, s.bgy.e1.reload⟩ }

/-! ## Register writes -/

/-- DISPCNT byte 0 (R232). -/
def writeDispcntLow (v : Byte) (s : State) : State :=
  let old := s.dispcnt.mode
  let s1 :=
    { s with
      dispcnt :=
        { s.dispcnt with
          mode := v.extractLsb' 0 3
          cgbMode := v.getLsbD 3
          frame := v.getLsbD 4
          hblankOamAccess := v.getLsbD 5
          oamMapping1d := v.getLsbD 6
          forcedBlank := v.getLsbD 7 } }
  if s1.dispcnt.mode ≠ old ∧ reloadMode s1.dispcnt.mode then reloadAffine s1 else s1

/-- DISPCNT byte 1 (R233). -/
def writeDispcntHigh (v : Byte) (s : State) : State :=
  { s with dispcnt := { s.dispcnt with enable := v } }

/-- DISPSTAT byte 0 (R236): the three enables; the flags and bits 7:6 are discarded. -/
def writeDispstatLow (v : Byte) (s : State) : State :=
  { s with
    dispstat :=
      { s.dispstat with
        vblankIrqEnable := v.getLsbD 3
        hblankIrqEnable := v.getLsbD 4
        vcountIrqEnable := v.getLsbD 5 } }

/-- DISPSTAT byte 1 (R237). -/
def writeDispstatHigh (v : Byte) (s : State) : State :=
  { s with dispstat := { s.dispstat with vcountSetting := v } }

/-- BGnCNT (R239). -/
def setBgcnt (c : Bgcnt) (lane : Lane) (v : Byte) : Bgcnt :=
  match lane with
  | .lo =>
    { c with
      priority := v.extractLsb' 0 2
      tileBlock := v.extractLsb' 2 2
      mosaicEnable := v.getLsbD 6
      fullPalette := v.getLsbD 7 }
  | .hi =>
    { c with
      mapBlock := v.extractLsb' 0 5
      wraparound := v.getLsbD 5
      size := v.extractLsb' 6 2 }

/-- MOSAIC (R133, R247): one byte is one group; the counters are not touched. -/
def setMosaicSizes (g : MosaicGroup) (v : Byte) : MosaicGroup :=
  { g with h := v.extractLsb' 0 4, v := v.extractLsb' 4 4 }

def writeMosaic (lane : Lane) (v : Byte) (s : State) : State :=
  match lane with
  | .lo => { s with mosaic := { s.mosaic with bg := setMosaicSizes s.mosaic.bg v } }
  | .hi => { s with mosaic := { s.mosaic with obj := setMosaicSizes s.mosaic.obj v } }

/-- BLDCNT (R248). -/
def writeBldcnt (lane : Lane) (v : Byte) (s : State) : State :=
  match lane with
  | .lo =>
    { s with
      bldcnt :=
        { targets := s.bldcnt.targets.set .n0 (v.extractLsb' 0 6)
          sfx := v.extractLsb' 6 2 } }
  | .hi => { s with bldcnt := { s.bldcnt with targets := s.bldcnt.targets.set .n1 (v.extractLsb' 0 6) } }

/-- BLDALPHA (R249). -/
def writeBldalpha (lane : Lane) (v : Byte) (s : State) : State :=
  match lane with
  | .lo => { s with eva := v.extractLsb' 0 5 }
  | .hi => { s with evb := v.extractLsb' 0 5 }

/-- BLDY (R250): byte 1 is discarded. -/
def writeBldy (lane : Lane) (v : Byte) (s : State) : State :=
  match lane with
  | .lo => { s with evy := v.extractLsb' 0 5 }
  | .hi => s

/-- The control byte of a timer (R272). `clears` is `TIMER_ENABLE_CLEARS_SUBTICK`. -/
def Timer.control (t : Timer) (v : Byte) (clears : Bool) : Timer :=
  let t1 :=
    { t with
      frequency := v.extractLsb' 0 2
      cascade := v.getLsbD 2
      interrupt := v.getLsbD 6
      enable := v.getLsbD 7 }
  if !t.enable && t1.enable then
    { t1 with counter := t.reload, cycles := if clears then 0 else t.cycles }
  else t1

/-- TMnCNT_L (R270): a write reaches `reload`. -/
def writeTimerReload (n : Ix4) (lane : Lane) (v : Byte) (s : State) : State :=
  setTimer n { s.tm.get n with reload := setLane (s.tm.get n).reload lane v } s

/-- TMnCNT_H (R272, R273): byte 1 is discarded. -/
def writeTimerControl (n : Ix4) (lane : Lane) (v : Byte) (s : State) : State :=
  match lane with
  | .lo => setTimer n ((s.tm.get n).control v s.params.timerEnableClearsSubtick) s
  | .hi => s

/-- Write the initial value of a reference point; the accumulator does not move (R39, R244). -/
def RefPoint.setInitial (p : RefPoint) (r : BitVec 28) : RefPoint := { p with initial := r }

/-- `RegWriteByte` (R231): the write rule of every register byte. -/
def writeReg (r : Reg) (lane : Lane) (v : Byte) (s : State) : State :=
  match r with
  | .dispcnt =>
    match lane with
    | .lo => writeDispcntLow v s
    | .hi => writeDispcntHigh v s
  | .dispstat =>
    match lane with
    | .lo => writeDispstatLow v s
    | .hi => writeDispstatHigh v s
  | .vcount => s
  | .bgcnt n => { s with bgcnt := s.bgcnt.set n (setBgcnt (s.bgcnt.get n) lane v) }
  | .bghofs n => { s with bghofs := s.bghofs.set n (setScroll (s.bghofs.get n) lane v) }
  | .bgvofs n => { s with bgvofs := s.bgvofs.set n (setScroll (s.bgvofs.get n) lane v) }
  | .bgpa i => { s with bgpa := s.bgpa.set i (setLane (s.bgpa.get i) lane v) }
  | .bgpb i => { s with bgpb := s.bgpb.set i (setLane (s.bgpb.get i) lane v) }
  | .bgpc i => { s with bgpc := s.bgpc.set i (setLane (s.bgpc.get i) lane v) }
  | .bgpd i => { s with bgpd := s.bgpd.set i (setLane (s.bgpd.get i) lane v) }
  | .bgxLow i => { s with bgx := s.bgx.set i ((s.bgx.get i).setInitial (setRefLow (s.bgx.get i).initial lane v)) }
  | .bgxHigh i => { s with bgx := s.bgx.set i ((s.bgx.get i).setInitial (setRefHigh (s.bgx.get i).initial lane v)) }
  | .bgyLow i => { s with bgy := s.bgy.set i ((s.bgy.get i).setInitial (setRefLow (s.bgy.get i).initial lane v)) }
  | .bgyHigh i => { s with bgy := s.bgy.set i ((s.bgy.get i).setInitial (setRefHigh (s.bgy.get i).initial lane v)) }
  | .winh w => { s with winh := s.winh.set w (setWinRange (s.winh.get w) lane v) }
  | .winv w => { s with winv := s.winv.set w (setWinRange (s.winv.get w) lane v) }
  | .winin => { s with winin := setMaskPair s.winin lane v }
  | .winout => { s with winout := setMaskPair s.winout lane v }
  | .mosaic => writeMosaic lane v s
  | .bldcnt => writeBldcnt lane v s
  | .bldalpha => writeBldalpha lane v s
  | .bldy => writeBldy lane v s
  | .tmcntL n => writeTimerReload n lane v s
  | .tmcntH n => writeTimerControl n lane v s

/-! ## Register reads -/

/-- DISPCNT (R234). -/
def readDispcnt (d : Dispcnt) : Lane → Byte
  | .lo =>
    BitVec.ofBool d.forcedBlank ++ BitVec.ofBool d.oamMapping1d ++ BitVec.ofBool d.hblankOamAccess ++
      BitVec.ofBool d.frame ++ BitVec.ofBool d.cgbMode ++ d.mode
  | .hi => d.enable

/-- DISPSTAT (R235). -/
def readDispstat (d : Dispstat) : Lane → Byte
  | .lo =>
    (0#2) ++ BitVec.ofBool d.vcountIrqEnable ++ BitVec.ofBool d.hblankIrqEnable ++
      BitVec.ofBool d.vblankIrqEnable ++ BitVec.ofBool d.vcountFlag ++ BitVec.ofBool d.hblankFlag ++
      BitVec.ofBool d.vblankFlag
  | .hi => d.vcountSetting

/-- BGnCNT (R240). -/
def readBgcnt (c : Bgcnt) : Lane → Byte
  | .lo => BitVec.ofBool c.fullPalette ++ BitVec.ofBool c.mosaicEnable ++ (0#2) ++ c.tileBlock ++ c.priority
  | .hi => c.size ++ BitVec.ofBool c.wraparound ++ c.mapBlock

/-- BLDCNT (R248). -/
def readBldcnt (b : Bldcnt) : Lane → Byte
  | .lo => b.sfx ++ b.targets.get .n0
  | .hi => (0#2) ++ b.targets.get .n1

/-- BLDALPHA (R249): the stored values, not the clamped ones. -/
def readBldalpha (s : State) : Lane → Byte
  | .lo => (0#3) ++ s.eva
  | .hi => (0#3) ++ s.evb

/-- TMnCNT_H (R271). -/
def readTimerControl (t : Timer) : Lane → Byte
  | .lo =>
    BitVec.ofBool t.enable ++ BitVec.ofBool t.interrupt ++ (0#3) ++ BitVec.ofBool t.cascade ++ t.frequency
  | .hi => 0

/-- `RegReadByte` (R230): the value of every register byte; `none` where the spec leaves it unspecified (R242). -/
def readReg (r : Reg) (lane : Lane) (s : State) : Option Byte :=
  match r with
  | .dispcnt => some (readDispcnt s.dispcnt lane)
  | .dispstat => some (readDispstat s.dispstat lane)
  | .vcount =>
    match lane with
    | .lo => some s.ppu.vcount
    | .hi => some 0
  | .bgcnt n => some (readBgcnt (s.bgcnt.get n) lane)
  | .bghofs _ => none
  | .bgvofs _ => none
  | .bgpa _ => none
  | .bgpb _ => none
  | .bgpc _ => none
  | .bgpd _ => none
  | .bgxLow _ => none
  | .bgxHigh _ => none
  | .bgyLow _ => none
  | .bgyHigh _ => none
  | .winh _ => none
  | .winv _ => none
  | .winin => some (readMaskPair s.winin lane)
  | .winout => some (readMaskPair s.winout lane)
  | .mosaic => none
  | .bldcnt => some (readBldcnt s.bldcnt lane)
  | .bldalpha => some (readBldalpha s lane)
  | .bldy => none
  | .tmcntL n => some (laneOf (s.tm.get n).counter lane)
  | .tmcntH n => some (readTimerControl (s.tm.get n) lane)

end Sys2Proof.Machine
end

