-- ==== Sys2Proof/Machine/Background.lean ====
section
/-! DEFINITION. Machine/Background.lean: stage 1 of the scanline renderer, the background layers (43_render_backgrounds.md).
Each row is computed pixel by pixel: the pixel of layer `n` at column `x` of line `y`. -/

namespace Sys2Proof.Machine

/-- A pixel slot: a colour, or `none` for TRANSPARENT (R11, R300). -/
abbrev Slot := Option Color

/-- `BgColor(i)` (R155). -/
def bgColor (s : State) (i : Nat) : Checked Color := do
  let h ← memRead16 s .pram (2 * i)
  return h.extractLsb' 0 15

/-- `ObjColor(i)` (R155). -/
def objColor (s : State) (i : Nat) : Checked Color := do
  let h ← memRead16 s .pram (0x200 + 2 * i)
  return h.extractLsb' 0 15

/-- `BgFetch8(off)` (R331): 0 at offsets of 0x10000 and above, without a fetch. -/
def bgFetch8 (s : State) (off : Nat) : Checked Byte :=
  if off < 0x10000 then memRead8 s .vram off else some 0

/-- `BgFetch16(off)` (R331). -/
def bgFetch16 (s : State) (off : Nat) : Checked Half :=
  if off < 0x10000 then memRead16 s .vram off else some 0

/-- Index 0 is transparent; any other index selects a background colour (R155, R157). -/
def bgIndexed (s : State) (idx i : Nat) : Checked Slot :=
  if idx = 0 then some none else (bgColor s i).map some

/-- The nibble of a 4-bit-per-pixel byte for pixel column `k` (R157): low when even, high when odd. -/
def nibble (b : Byte) (k : Nat) : Nat :=
  if k % 2 = 1 then (b.extractLsb' 4 4).toNat else (b.extractLsb' 0 4).toNat

/-- The screen column a mosaic block samples (R308, R353). -/
def mosaicColumn (enabled : Bool) (sizeX x : Nat) : Nat :=
  if enabled then x - x % sizeX else x

/-- The line a mosaic block samples (R308, R353), as a signed number (R304). -/
def mosaicLine (enabled : Bool) (counterY : BitVec 4) (y : Nat) : Int :=
  if enabled then (y : Int) - counterY.toNat else y

/-! ## Text layers -/

/-- The screen block of a text-layer position (R305). -/
def screenBlock (size : BitVec 2) (px py : Nat) : Nat :=
  match size.toNat with
  | 0 => 0
  | 1 => px / 256
  | 2 => py / 256
  | _ => px / 256 + 2 * (py / 256)

/-- `TextPixel(c, px, py)` (R305, R156, R157). -/
def textPixel (s : State) (c : Bgcnt) (px py : Nat) : Checked Slot := do
  let eoff :=
    c.mapBase + 0x800 * screenBlock c.size px py + 64 * (py % 256 / 8) + 2 * (px % 256 / 8)
  let e ← bgFetch16 s eoff
  let tile := (e.extractLsb' 0 10).toNat
  let bank := (e.extractLsb' 12 4).toNat
  let r := if e.getLsbD 11 then 7 - py % 8 else py % 8
  let k := if e.getLsbD 10 then 7 - px % 8 else px % 8
  if c.fullPalette then
    let b ← bgFetch8 s (c.tileBase + 64 * tile + 8 * r + k)
    bgIndexed s b.toNat b.toNat
  else
    let b ← bgFetch8 s (c.tileBase + 32 * tile + 4 * r + k / 2)
    let idx := nibble b k
    bgIndexed s idx (16 * bank + idx)

/-- Width of a text layer (R159, R304). -/
def textWidth (size : BitVec 2) : Nat := if size = 1 ∨ size = 3 then 512 else 256

/-- Height of a text layer (R159, R304). -/
def textHeight (size : BitVec 2) : Nat := if size = 2 ∨ size = 3 then 512 else 256

/-- One pixel of `RenderText(n)` (R304, R308). -/
def textSlot (s : State) (y : Nat) (n : Ix4) (x : Nat) : Checked Slot :=
  let c := s.bgcnt.get n
  let line := mosaicLine c.mosaicEnable s.mosaic.bg.counterY y
  let py := (line + (s.bgvofs.get n).toNat) % (textHeight c.size : Int)
  let xs := mosaicColumn c.mosaicEnable s.mosaic.bg.sizeX x
  let px := (xs + (s.bghofs.get n).toNat) % textWidth c.size
  textPixel s c px py.toNat

/-! ## Affine layers -/

/-- The layer an affine parameter set belongs to (R38). -/
def affineLayer : Ix2 → Ix4
  | .n0 => .n2
  | .n1 => .n3

/-- Side of an affine layer in pixels (R159, R310). -/
def affineSide (size : BitVec 2) : Nat := 128 * 2 ^ size.toNat

/-- The texel coordinate on one axis: accumulator plus column times step, wrapped to 32 bits, floor of the
8-fraction-bit value (R312). -/
def affineCoord (current : BitVec 32) (step : BitVec 16) (xs : Nat) : Int :=
  (current + BitVec.ofNat 32 xs * step.signExtend 32).toInt / 256

/-- The texel of an affine layer (R158, R312). -/
def affineTexel (s : State) (c : Bgcnt) (tx ty : Nat) : Checked Slot := do
  let tile ← bgFetch8 s (c.mapBase + ty / 8 * (affineSide c.size / 8) + tx / 8)
  let idx ← bgFetch8 s (c.tileBase + 64 * tile.toNat + 8 * (ty % 8) + tx % 8)
  bgIndexed s idx.toNat idx.toNat

/-- One pixel of `RenderAffine(n)` (R312). -/
def affineSlot (s : State) (i : Ix2) (x : Nat) : Checked Slot :=
  let c := s.bgcnt.get (affineLayer i)
  let side : Int := affineSide c.size
  let xs := mosaicColumn c.mosaicEnable s.mosaic.bg.sizeX x
  let tx := affineCoord (s.bgx.get i).current (s.bgpa.get i) xs
  let ty := affineCoord (s.bgy.get i).current (s.bgpc.get i) xs
  if c.wraparound then affineTexel s c (tx % side).toNat (ty % side).toNat
  else if tx < 0 ∨ tx ≥ side ∨ ty < 0 ∨ ty ≥ side then some none
  else affineTexel s c tx.toNat ty.toNat

/-! ## Bitmap modes -/

/-- Base of the selected bitmap frame (R160): frame 1 at 0xA000. -/
def bitmapBase (s : State) : Nat := if s.dispcnt.frame then 0xA000 else 0

/-- `RenderBitmap3` (R320). -/
def bitmap3Slot (s : State) (y x : Nat) : Checked Slot := do
  let h ← memRead16 s .vram (2 * (240 * y + x))
  return some (h.extractLsb' 0 15)

/-- `RenderBitmap4` (R321). -/
def bitmap4Slot (s : State) (y x : Nat) : Checked Slot := do
  let b ← memRead8 s .vram (bitmapBase s + 240 * y + x)
  bgIndexed s b.toNat b.toNat

/-- `RenderBitmap5` (R322). -/
def bitmap5Slot (s : State) (y x : Nat) : Checked Slot :=
  if x < 160 ∧ y < 128 then do
    let h ← memRead16 s .vram (bitmapBase s + 2 * (160 * y + x))
    return some (h.extractLsb' 0 15)
  else some none

/-! ## Stage 1 as a whole -/

/-- `dispcnt.enable[n]` for a layer (R26). -/
def layerEnabled (s : State) (n : Ix4) : Bool := s.dispcnt.enable.getLsbD n.toNat

/-- What an active layer shows in a display mode (R301); `none` where the layer is inactive. -/
def activeSlot (s : State) (y : Nat) (n : Ix4) (x : Nat) : Checked Slot :=
  match s.dispcnt.mode.toNat, n with
  | 0, n => textSlot s y n x
  | 1, .n0 => textSlot s y .n0 x
  | 1, .n1 => textSlot s y .n1 x
  | 1, .n2 => affineSlot s .n0 x
  | 2, .n2 => affineSlot s .n0 x
  | 2, .n3 => affineSlot s .n1 x
  | 3, .n2 => bitmap3Slot s y x
  | 4, .n2 => bitmap4Slot s y x
  | 5, .n2 => bitmap5Slot s y x
  | _, _ => some none

/-- `bgrow[n][x]` of `RenderBackgrounds()` (R300, R332). -/
def bgSlot (s : State) (y : Nat) (n : Ix4) (x : Nat) : Checked Slot :=
  if layerEnabled s n then activeSlot s y n x else some none

end Sys2Proof.Machine
end

