-- ==== Sys2Proof/Machine/Objects.lean ====
section
/-! DEFINITION. Machine/Objects.lean: stages 2 and 3 of the scanline renderer, objects and windows
(44_render_objects_windows.md). The object row is computed pixel by pixel: the objects merged at column `x`. -/

namespace Sys2Proof.Machine

/-- An object's attributes (R161). -/
structure ObjAttr where
  y : BitVec 8
  affine : Bool
  /-- Bit 9 of attribute 0: `double_size` of an affine object, `disable` of another. -/
  bit9 : Bool
  mode : BitVec 2
  mosaic : Bool
  colors256 : Bool
  shape : BitVec 2
  x : BitVec 9
  group : BitVec 5
  hflip : Bool
  vflip : Bool
  size : BitVec 2
  tile : BitVec 10
  priority : BitVec 2
  palette : BitVec 4
  deriving DecidableEq, Repr

/-- The fields of the three attribute halfwords (R161). -/
def ObjAttr.ofHalves (a0 a1 a2 : Half) : ObjAttr where
  y := a0.extractLsb' 0 8
  affine := a0.getLsbD 8
  bit9 := a0.getLsbD 9
  mode := a0.extractLsb' 10 2
  mosaic := a0.getLsbD 12
  colors256 := a0.getLsbD 13
  shape := a0.extractLsb' 14 2
  x := a1.extractLsb' 0 9
  group := a1.extractLsb' 9 5
  hflip := a1.getLsbD 12
  vflip := a1.getLsbD 13
  size := a1.extractLsb' 14 2
  tile := a2.extractLsb' 0 10
  priority := a2.extractLsb' 10 2
  palette := a2.extractLsb' 12 4

/-- The attributes of object `n` (R161). -/
def objAttr (s : State) (n : Nat) : Checked ObjAttr := do
  let a0 ← memRead16 s .oam (8 * n)
  let a1 ← memRead16 s .oam (8 * n + 2)
  let a2 ← memRead16 s .oam (8 * n + 4)
  return ObjAttr.ofHalves a0 a1 a2

/-- `Skipped(a0)` (R343). -/
def ObjAttr.skipped (o : ObjAttr) : Bool :=
  (!o.affine && o.bit9) || decide (o.mode = 3) || decide (o.shape = 3)

/-- The object size table (R162). Shape 3 has no row; such an object is skipped (R343). -/
def objSize (shape size : BitVec 2) : Nat × Nat :=
  match shape.toNat, size.toNat with
  | 0, 0 => (8, 8)
  | 0, 1 => (16, 16)
  | 0, 2 => (32, 32)
  | 0, _ => (64, 64)
  | 1, 0 => (16, 8)
  | 1, 1 => (32, 8)
  | 1, 2 => (32, 16)
  | 1, _ => (64, 32)
  | 2, 0 => (8, 16)
  | 2, 1 => (8, 32)
  | 2, 2 => (16, 32)
  | 2, _ => (32, 64)
  | _, _ => (0, 0)

/-- Texture width and height (R162). -/
def ObjAttr.width (o : ObjAttr) : Nat := (objSize o.shape o.size).1
def ObjAttr.height (o : ObjAttr) : Nat := (objSize o.shape o.size).2

/-- `dbl`: an affine object with `double_size` (R342, R345). -/
def ObjAttr.double (o : ObjAttr) : Bool := o.affine && o.bit9

/-- Bounding box (R345). -/
def ObjAttr.boxWidth (o : ObjAttr) : Nat := if o.double then 2 * o.width else o.width
def ObjAttr.boxHeight (o : ObjAttr) : Nat := if o.double then 2 * o.height else o.height

/-- Signed screen position of the box's top-left corner (R344). -/
def ObjAttr.originX (o : ObjAttr) : Int :=
  if o.x.toNat ≥ 240 then (o.x.toNat : Int) - 512 else o.x.toNat
def ObjAttr.originY (o : ObjAttr) : Int :=
  if o.y.toNat ≥ 160 then (o.y.toNat : Int) - 256 else o.y.toNat

/-- Does the bounding box cover the screen pixel (R342)? -/
def ObjAttr.covers (o : ObjAttr) (y x : Nat) : Bool :=
  decide (o.originY ≤ y) && decide ((y : Int) < o.originY + o.boxHeight) &&
    decide (o.originX ≤ x) && decide ((x : Int) < o.originX + o.boxWidth)

/-- The local coordinates `lx`, `ly` inside the box, under mosaic clamped at 0 (R342, R353). -/
def ObjAttr.localX (o : ObjAttr) (g : MosaicGroup) (x : Nat) : Nat :=
  ((mosaicColumn o.mosaic g.sizeX x : Int) - o.originX).toNat
def ObjAttr.localY (o : ObjAttr) (g : MosaicGroup) (y : Nat) : Nat :=
  (mosaicLine o.mosaic g.counterY y - o.originY).toNat

/-- An affine parameter of a group, at byte `k` of it (R163). -/
def objParam (s : State) (group : BitVec 5) (k : Nat) : Checked Int := do
  let h ← memRead16 s .oam (32 * group.toNat + k)
  return h.toInt

/-- `ObjTexel` (R346, R347): the texel of a local coordinate, or `none` outside the texture. -/
def objTexel (s : State) (o : ObjAttr) (lx ly : Nat) : Checked (Option (Nat × Nat)) :=
  if o.affine then do
    let pa ← objParam s o.group 6
    let pb ← objParam s o.group 14
    let pc ← objParam s o.group 22
    let pd ← objParam s o.group 30
    let dx : Int := lx - (o.boxWidth / 2 : Nat)
    let dy : Int := ly - (o.boxHeight / 2 : Nat)
    let tx : Int := (pa * dx + pb * dy) / 256 + (o.width / 2 : Nat)
    let ty : Int := (pc * dx + pd * dy) / 256 + (o.height / 2 : Nat)
    if 0 ≤ tx ∧ tx < o.width ∧ 0 ≤ ty ∧ ty < o.height then return some (tx.toNat, ty.toNat)
    else return none
  else
    let tx := if o.hflip then o.width - 1 - lx else lx
    let ty := if o.vflip then o.height - 1 - ly else ly
    some (some (tx, ty))

/-- Tile number of a texel (R348). -/
def objTile (s : State) (o : ObjAttr) (tx ty : Nat) : Nat :=
  let u := if o.colors256 then 2 else 1
  let t :=
    if s.dispcnt.oamMapping1d then o.tile.toNat + ty / 8 * (o.width / 8) * u + tx / 8 * u
    else
      let base := if o.colors256 then o.tile.toNat - o.tile.toNat % 2 else o.tile.toNat
      base + ty / 8 * 32 + tx / 8 * u
  t % 1024

/-- The display modes whose frame data covers object tiles 0 to 511 (R351). -/
def bitmapMode (s : State) : Bool :=
  decide (s.dispcnt.mode = 3) || decide (s.dispcnt.mode = 4) || decide (s.dispcnt.mode = 5)

/-- A byte of the object tile area (R164, R349). -/
def objFetch (s : State) (off : Nat) : Checked Byte := memRead8 s .vram (0x10000 + off % 0x8000)

/-- `ObjPixel` (R349, R351). -/
def objPixel (s : State) (o : ObjAttr) (tx ty : Nat) : Checked Slot :=
  let t := objTile s o tx ty
  if bitmapMode s && decide (t < 512) then some none
  else if o.colors256 then do
    let b ← objFetch s (32 * t + 8 * (ty % 8) + tx % 8)
    if b.toNat = 0 then some none else (objColor s b.toNat).map some
  else do
    let b ← objFetch s (32 * t + 4 * (ty % 8) + tx % 8 / 2)
    let idx := nibble b (tx % 8)
    if idx = 0 then some none else (objColor s (16 * o.palette.toNat + idx)).map some

/-- A slot of the object row (R340). -/
structure ObjSlot where
  color : Slot
  priority : BitVec 2
  alpha : Bool
  window : Bool
  deriving DecidableEq, Repr

/-- The slot at the start of stage 2 (R340). -/
def ObjSlot.empty : ObjSlot := ⟨none, 3, false, false⟩

/-- `Merge` (R350). -/
def ObjSlot.merge (d : ObjSlot) (mode prio : BitVec 2) (c : Color) : ObjSlot :=
  if mode = 2 then { d with window := true }
  else if d.color = none ∨ prio.toNat < d.priority.toNat then
    { d with color := some c, priority := prio, alpha := decide (mode = 1) }
  else d

/-- The texel colour of object attributes at a screen pixel that the box covers (R342). -/
def objColorAt (s : State) (o : ObjAttr) (y x : Nat) : Checked Slot := do
  let texel ← objTexel s o (o.localX s.mosaic.obj x) (o.localY s.mosaic.obj y)
  match texel with
  | none => some none
  | some (tx, ty) => objPixel s o tx ty

/-- Object `n`'s turn at one pixel (R342). -/
def objStep (s : State) (y x : Nat) (d : ObjSlot) (n : Nat) : Checked ObjSlot := do
  let o ← objAttr s n
  if o.skipped || !o.covers y x then return d
  let c ← objColorAt s o y x
  match c with
  | none => return d
  | some col => return d.merge o.mode o.priority col

/-- `objrow[x]` of `RenderObjects()` (R340, R342): objects 0 to 127 in ascending order. -/
def objSlot (s : State) (y x : Nat) : Checked ObjSlot :=
  if s.dispcnt.enable.getLsbD 4 then (List.range 128).foldlM (objStep s y x) ObjSlot.empty
  else some ObjSlot.empty

/-! ## Windows (stage 3) -/

/-- Is a coordinate inside a range that may wrap (R361)? -/
def WinRange.holds (r : WinRange) (v : Nat) : Bool :=
  if r.min.toNat ≤ r.max.toNat then decide (r.min.toNat ≤ v) && decide (v < r.max.toNat)
  else decide (r.min.toNat ≤ v) || decide (v < r.max.toNat)

/-- `winmask[w][x]` (R360). -/
def winMask (s : State) (w : Ix2) (y x : Nat) : Bool :=
  s.dispcnt.enable.getLsbD (5 + w.toNat) && (s.winv.get w).holds y && (s.winh.get w).holds x

/-- `WinCtl(x)` (R362). -/
def winCtl (s : State) (y x : Nat) (d : ObjSlot) : BitVec 6 :=
  if !s.dispcnt.enable.getLsbD 5 && !s.dispcnt.enable.getLsbD 6 && !s.dispcnt.enable.getLsbD 7 then
    BitVec.allOnes 6
  else if winMask s .n0 y x then s.winin.get .n0
  else if winMask s .n1 y x then s.winin.get .n1
  else if s.dispcnt.enable.getLsbD 7 && d.window then s.winout.get .n1
  else s.winout.get .n0

end Sys2Proof.Machine
end

