-- ==== Sys2Proof/Machine/Compose.lean ====
section
/-! DEFINITION. Machine/Compose.lean: stages 4 and 5 of the scanline renderer: layer selection, the blend unit,
the output pixel and `RenderScanline` (45_render_compose_blend.md). -/

namespace Sys2Proof.Machine

/-- `Blend5(A, B, a, b)` (R392). -/
def blend5 (fa fb a b : Nat) : Nat := min 31 ((a * fa + b * fb) / 16)

/-- A 5-bit channel of a colour (R11): 0 red, 1 green, 2 blue. -/
def channel (c : Color) (k : Nat) : Nat := (c.extractLsb' (5 * k) 5).toNat

/-- A colour from its three channels (R386). -/
def ofChannels (r g b : Nat) : Color :=
  BitVec.ofNat 5 b ++ BitVec.ofNat 5 g ++ BitVec.ofNat 5 r

/-- `Alpha(a, b)` (R386, R391). -/
def alphaBlend (eva evb : BitVec 5) (a b : Color) : Color :=
  let f := fun k => blend5 (clampFactor eva) (clampFactor evb) (channel a k) (channel b k)
  ofChannels (f 0) (f 1) (f 2)

/-- A brightness effect towards a channel value (R387, R391): 31 for `Brighten`, 0 for `Darken`. -/
def fade (evy : BitVec 5) (target : Nat) (a : Color) : Color :=
  let f := fun k => blend5 (16 - clampFactor evy) (clampFactor evy) (channel a k) target
  ofChannels (f 0) (f 1) (f 2)

def brighten (evy : BitVec 5) (a : Color) : Color := fade evy 31 a
def darken (evy : BitVec 5) (a : Color) : Color := fade evy 0 a

/-- A candidate of layer selection (R382): its key, its identifier, its colour.
The key `(priority, order)` is `priority` and then 0 for the object row, `1 + n` for layer `n`. -/
structure Layer where
  priority : Nat
  order : Nat
  id : Nat
  color : Color
  deriving DecidableEq, Repr

/-- Lexicographic order of the keys (R382). -/
def Layer.before (a b : Layer) : Bool :=
  decide (a.priority < b.priority) || (decide (a.priority = b.priority) && decide (a.order < b.order))

/-- Insert a candidate by its key. -/
def insertLayer (l : Layer) : List Layer → List Layer
  | [] => [l]
  | m :: rest => if l.before m then l :: m :: rest else m :: insertLayer l rest

/-- Sort candidates by key, ascending (R382). -/
def sortLayers : List Layer → List Layer
  | [] => []
  | l :: rest => insertLayer l (sortLayers rest)

/-- The candidate of layer `n` (R382): opaque here and let through by the window control. -/
def bgLayer (s : State) (ctl : BitVec 6) (n : Ix4) (c : Slot) : List Layer :=
  match c with
  | none => []
  | some col =>
    if ctl.getLsbD n.toNat then [⟨(s.bgcnt.get n).priority.toNat, 1 + n.toNat, n.toNat, col⟩] else []

/-- The candidate of the object row (R382). -/
def objLayer (ctl : BitVec 6) (d : ObjSlot) : List Layer :=
  match d.color with
  | none => []
  | some col => if ctl.getLsbD 4 then [⟨d.priority.toNat, 0, 4, col⟩] else []

/-- `Effect(x, ctl, top, second)` (R385). Identifiers index the target masks: 0 to 3 layers, 4 objects, 5 backdrop. -/
def effect (s : State) (ctl : BitVec 6) (d : ObjSlot) (topId : Nat) (top : Color)
    (second : Option (Nat × Color)) : Color :=
  let t1 := s.bldcnt.targets.get .n0
  let t2 := s.bldcnt.targets.get .n1
  let blended : Option Color :=
    match second with
    | none => none
    | some (id2, c2) => if t2.getLsbD id2 then some (alphaBlend s.eva s.evb top c2) else none
  if !ctl.getLsbD 5 then top
  else if decide (topId = 4) && d.alpha && blended.isSome then blended.getD top
  else if !t1.getLsbD topId then top
  else
    match s.bldcnt.sfx.toNat with
    | 0 => top
    | 1 => blended.getD top
    | 2 => brighten s.evy top
    | _ => darken s.evy top

/-- `Compose(x)` (R382, R383): the colour of column `x` of line `y`. -/
def compose (s : State) (y x : Nat) : Checked Color := do
  let b0 ← bgSlot s y .n0 x
  let b1 ← bgSlot s y .n1 x
  let b2 ← bgSlot s y .n2 x
  let b3 ← bgSlot s y .n3 x
  let d ← objSlot s y x
  let backdrop ← bgColor s 0
  let ctl := winCtl s y x d
  let layers :=
    sortLayers
      (bgLayer s ctl .n0 b0 ++ bgLayer s ctl .n1 b1 ++ bgLayer s ctl .n2 b2 ++ bgLayer s ctl .n3 b3 ++
        objLayer ctl d)
  match layers with
  | [] => return effect s ctl d 5 backdrop none
  | [l] => return effect s ctl d l.id l.color (some (5, backdrop))
  | l :: m :: _ => return effect s ctl d l.id l.color (some (m.id, m.color))

/-- `ConvertColor` (R398): the default, or the function another pixel format names. -/
def convertColor (f : PixelFormat) (c : Color) : Pixel :=
  match f with
  | .argb32 =>
    (0xFF#8) ++ c.extractLsb' 0 5 ++ (0#3) ++ c.extractLsb' 5 5 ++ (0#3) ++ c.extractLsb' 10 5 ++ (0#3)
  | .other k => Config.otherPixel k c

/-- One output pixel of the line (R399). -/
def renderPixel (s : State) (y x : Nat) : Checked Pixel := do
  let c ← compose s y x
  return convertColor s.params.pixelFormat c

/-- The 240 output pixels of the line (R399). -/
def renderRow (s : State) (y : Nat) : Checked (List Pixel) :=
  (List.range Config.screenW).mapM (renderPixel s y)

/-- `RenderScanline()` (R399). -/
def renderScanline (s : State) : State :=
  let y := s.ppu.vcount.toNat
  if y ≥ Config.nVisible then raiseFault .index s
  else if s.dispcnt.forcedBlank then
    writeRow y (List.replicate Config.screenW (convertColor s.params.pixelFormat 0x7FFF)) s
  else if s.dispcnt.mode = 6 ∨ s.dispcnt.mode = 7 then
    let (row, s1) := drawRow s
    writeRow y row s1
  else
    match renderRow s y with
    | none => raiseFault .index s
    | some row => writeRow y row s

/-- `line_has_alpha_obj` (R352): some `Merge` of this line had `mode = 1` and took its pixel.
The composer does not need it (R385 tests each pixel's own flag). -/
def tookAlpha (s : State) (y x : Nat) (n : Nat) : Checked Bool := do
  let before ← (List.range n).foldlM (objStep s y x) ObjSlot.empty
  let o ← objAttr s n
  let after ← objStep s y x before n
  return decide (o.mode = 1) && decide (after ≠ before)

def lineHasAlphaObj (s : State) (y : Nat) : Checked Bool := do
  let hits ←
    (List.range Config.screenW).mapM fun x => (List.range 128).mapM fun n => tookAlpha s y x n
  return s.dispcnt.enable.getLsbD 4 && hits.any fun row => row.any id

end Sys2Proof.Machine
end

