-- ==== Sys2Proof/Machine/Phases.lean ====
section
/-! DEFINITION. Machine/Phases.lean: the five phase handlers and the procedures they call (41_phase_machine.md),
`Dispatch` and `Advance` (40_scheduler_host.md). -/

namespace Sys2Proof.Machine

/-- One mosaic counter's step (R200). -/
def MosaicGroup.advance (g : MosaicGroup) : MosaicGroup :=
  if g.counterY.toNat + 1 ≥ g.sizeY then { g with counterY := 0 } else { g with counterY := g.counterY + 1 }

/-- `AdvanceMosaic()` (R200). -/
def advanceMosaic (s : State) : State :=
  { s with mosaic := ⟨s.mosaic.bg.advance, s.mosaic.obj.advance⟩ }

/-- Both mosaic vertical counters to zero (R194). -/
def clearMosaic (s : State) : State :=
  { s with mosaic := ⟨{ s.mosaic.bg with counterY := 0 }, { s.mosaic.obj with counterY := 0 }⟩ }

/-- One accumulator's line step (R202): under mosaic `size_y` times the coefficient where the counter is zero and
nothing where it is not; modulo 2^32. -/
def affineLineStep (mosaicOn : Bool) (g : MosaicGroup) (current : BitVec 32) (coef : BitVec 16) : BitVec 32 :=
  if mosaicOn then
    if g.counterY = 0 then current + BitVec.ofNat 32 g.sizeY * coef.signExtend 32 else current
  else current + coef.signExtend 32

/-- The line step of one reference point. -/
def RefPoint.lineStep (p : RefPoint) (mosaicOn : Bool) (g : MosaicGroup) (coef : BitVec 16) : RefPoint :=
  { p with current := affineLineStep mosaicOn g p.current coef }

/-- `UpdateAffine()` (R202). -/
def updateAffine (s : State) : State :=
  if s.ppu.vcount = 160 then reloadAffine s
  else
    let g := s.mosaic.bg
    let m2 := s.bgcnt.e2.mosaicEnable
    let m3 := s.bgcnt.e3.mosaicEnable
    { s with
      bgx := ⟨s.bgx.e0.lineStep m2 g s.bgpb.e0, s.bgx.e1.lineStep m3 g s.bgpb.e1⟩
      bgy := ⟨s.bgy.e0.lineStep m2 g s.bgpd.e0, s.bgy.e1.lineStep m3 g s.bgpd.e1⟩ }

/-- Write `ppu.vcount` (R25). -/
def setVcount (v : BitVec 8) (s : State) : State := { s with ppu := { s.ppu with vcount := v } }

/-- `Raise(HBlank)` where `dispstat.hblank_irq_enable` is set (R192, R195). -/
def raiseHblank (fire : Word64) (s : State) : State := raiseIf s.dispstat.hblankIrqEnable .hblank (some fire) s

/-- `Raise(VBlank)` where `dispstat.vblank_irq_enable` is set (R194). -/
def raiseVblank (fire : Word64) (s : State) : State := raiseIf s.dispstat.vblankIrqEnable .vblank (some fire) s

/-- `OnScanlineEnd(late)` (R192). -/
def onScanlineEnd (late : Int) (s : State) : State :=
  let fire := firedAt late s
  runOps [nextPhase .hblankSearch late, raiseHblank fire, renderScanline] s

/-- `Request(Video)` from line 2 on (R193). -/
def requestVideoFromLine2 (fire : Word64) (s : State) : State :=
  if s.ppu.vcount.toNat ≥ 2 then emit (.request .video) (some fire) s else s

/-- `OnHBlankSearchEnd(late)` (R193). -/
def onHblankSearchEnd (late : Int) (s : State) : State :=
  let fire := firedAt late s
  runOps
    [nextPhase .hblank late, emit (.request .hblank) (some fire), requestVideoFromLine2 fire,
     setHblankFlag true] s

/-- The branch of `OnHBlankEnd` that enters line 160 (R194). -/
def enterVblank (late : Int) (fire : Word64) (s : State) : State :=
  runOps
    [emit (.draw s.frame) (some fire), nextPhase .vblankScanline late, emit (.request .vblank) (some fire),
     setVblankFlag true, raiseVblank fire, clearMosaic] s

/-- The branch of `OnHBlankEnd` on every other line (R194). -/
def enterVisibleLine (late : Int) (s : State) : State :=
  runOps [advanceMosaic, nextPhase .scanline late] s

/-- The test of `OnHBlankEnd` (R194, R210). -/
def hblankBranch (late : Int) (fire : Word64) (s : State) : State :=
  if s.ppu.vcount = 160 then enterVblank late fire s else enterVisibleLine late s

/-- `OnHBlankEnd(late)` (R194). -/
def onHblankEnd (late : Int) (s : State) : State :=
  let fire := firedAt late s
  runOps
    [setHblankFlag false, setVcount (s.ppu.vcount + 1), evalVCount (some fire), hblankBranch late fire,
     updateAffine] s

/-- The DMA requests of a blanking line (R195). -/
def blankingRequests (fire : Word64) (s : State) : State :=
  if s.ppu.vcount.toNat < 162 then emit (.request .video) (some fire) s
  else if s.ppu.vcount = 162 then emit .stopVideoTransfer (some fire) s
  else s

/-- `OnVBlankScanlineEnd(late)` (R195). -/
def onVblankScanlineEnd (late : Int) (s : State) : State :=
  let fire := firedAt late s
  runOps [nextPhase .vblankHblank late, setHblankFlag true, blankingRequests fire, raiseHblank fire] s

/-- `vblank_flag` cleared when line 226 ends (R196). -/
def clearVblankAtLine226 (s : State) : State :=
  if s.ppu.vcount = 226 then setVblankFlag false s else s

/-- The test of `OnVBlankHBlankEnd` (R196, R210). -/
def vblankBranch (late : Int) (s : State) : State :=
  if s.ppu.vcount = 227 then runOps [setVcount 0, nextPhase .scanline late] s
  else runOps [nextPhase .vblankScanline late, clearVblankAtLine226, setVcount (s.ppu.vcount + 1)] s

/-- `OnVBlankHBlankEnd(late)` (R196). -/
def onVblankHblankEnd (late : Int) (s : State) : State :=
  let fire := firedAt late s
  runOps [setHblankFlag false, vblankBranch late, evalVCount (some fire)] s

/-- `Dispatch(tag, late)` (R176); an unrecognised tag faults (R443). -/
def dispatchEvent (tag : Phase) (late : Int) (s : State) : State :=
  match tag with
  | .scanline => onScanlineEnd late s
  | .hblankSearch => onHblankSearchEnd late s
  | .hblank => onHblankEnd late s
  | .vblankScanline => onVblankScanlineEnd late s
  | .vblankHblank => onVblankHblankEnd late s
  | .code5 => raiseFault .phase s
  | .code6 => raiseFault .phase s
  | .code7 => raiseFault .phase s

/-- Is the event due (R174)? -/
def Event.due (e : Event) (now : Word64) : Bool := decide (e.fireCycle.toNat ≤ now.toNat)

/-- `sched.now - fire_cycle` (R174), exact. -/
def Event.late (e : Event) (now : Word64) : Int := (now.toNat : Int) - e.fireCycle.toNat

/-- Take the head of the queue out. -/
def popEvent (s : State) : State := { s with sched := { s.sched with queue := s.sched.queue.tail } }

/-- The loop of `Advance()` (R174), at most `fuel` events. -/
def advanceLoop : Nat → State → State
  | 0, s => s
  | fuel + 1, s =>
    if s.faulted then s
    else
      match s.sched.queue with
      | [] => s
      | e :: _ =>
        if e.due s.sched.now then advanceLoop fuel (dispatchEvent e.tag (e.late s.sched.now) (popEvent s))
        else s

/-- `Advance()` (R174). Three events for each pending one are enough: an event fired late re-arms one that is due at
once, that one re-arms one that is not due, or that faults (log entry 12). -/
def advance (s : State) : State := advanceLoop (3 * s.sched.queue.length) s

end Sys2Proof.Machine
end

