-- ==== Sys2Proof/Machine/Bus.lean ====
section
/-! DEFINITION. Machine/Bus.lean: the bus commands at a decoded location (R230, R231), shared by every bus row. -/

namespace Sys2Proof.Machine

/-- What a meaning answers. -/
abbrev Answer := Host.Outcome State Fault Refusal

/-- The value of one byte of a location, with the state after the draw where it is unspecified (R230, R242). -/
def readByteAt (l : Loc) (s : State) : Byte × State :=
  match l with
  | .reg r lane =>
    match readReg r lane s with
    | some v => (v, s)
    | none => drawByte s
  | .mem sp off =>
    match memRead8 s sp off with
    | some v => (v, s)
    | none => ((drawByte s).1, raiseFault .index (drawByte s).2)

/-- Hand a value to the host (R16). -/
def returnValue (v : ReadValue) (s : State) : State := { s with readout := some v }

/-- RD8 of an unspecified value (R441). -/
def returnFreeByte (s : State) : State :=
  returnValue (.byte (drawByte s).1) (drawByte s).2

/-- RD16 of an unspecified value (R441): two independent bytes. -/
def returnFreeHalf (s : State) : State :=
  let d1 := drawByte s
  let d2 := drawByte d1.2
  returnValue (.half (d2.1 ++ d1.1)) d2.2

/-- RD8 at a location (R230, R441). -/
def busRead8 (l : Loc) (s : State) : State :=
  if s.faulted then returnFreeByte s
  else
    let b := readByteAt l s
    returnValue (.byte b.1) b.2

/-- The location one byte above an even one. -/
def Loc.above : Loc → Loc
  | .reg r _ => .reg r .hi
  | .mem sp off => .mem sp (off + 1)

/-- Is the location at an odd address (R83)? -/
def Loc.odd : Loc → Bool
  | .reg _ .lo => false
  | .reg _ .hi => true
  | .mem _ off => decide (off % 2 = 1)

/-- RD16 at a location (R230, R83, R441): a misaligned one faults and returns an unspecified value. -/
def busRead16 (l : Loc) (s : State) : State :=
  if s.faulted then returnFreeHalf s
  else if l.odd then returnFreeHalf (raiseFault .misaligned s)
  else
    let b0 := readByteAt l s
    let b1 := readByteAt l.above b0.2
    returnValue (.half (b1.1 ++ b0.1)) b1.2

/-- Store one byte at a location (R231). -/
def writeByteAt (l : Loc) (v : Byte) (s : State) : State :=
  match l with
  | .reg r lane => writeReg r lane v s
  | .mem sp off => memWrite8 sp off v s

/-- After a write to DISPSTAT the V-counter match is evaluated where `VCOUNT_EVAL_ON_WRITE` is true (R237). -/
def afterWrite (l : Loc) (s : State) : State :=
  match l with
  | .reg .dispstat _ => if s.params.vcountEvalOnWrite then evalVCount none s else s
  | _ => s

/-- WR8 at a location (R231, R441). -/
def busWrite8 (l : Loc) (v : Byte) (s : State) : State :=
  if s.faulted then s else afterWrite l (writeByteAt l v s)

/-- WR16 at a location (R231, R83, R441): low byte, then high byte; the evaluation of R237 once, after both. -/
def busWrite16 (l : Loc) (v : Half) (s : State) : State :=
  if s.faulted then s
  else if l.odd then raiseFault .misaligned s
  else afterWrite l (writeByteAt l.above (laneOf v .hi) (writeByteAt l (laneOf v .lo) s))

end Sys2Proof.Machine
end

