-- ==== Sys2Proof/Machine/AffineRegs.lean ====
section
/-! DEFINITION. Machine/AffineRegs.lean: the meanings of the rows of BG2PA to BG3Y. -/

namespace Sys2Proof.Machine

/-- WR8 BG2PA+0 (R243). -/
def execWr8Bg2pa0 (data : Byte) (s : State) : Answer := .next (busWrite8 (.reg (.bgpa .n0) .lo) data s)

/-- RD8 BG2PA+0 (R242). -/
def execRd8Bg2pa0 (s : State) : Answer := .next (busRead8 (.reg (.bgpa .n0) .lo) s)

/-- WR8 BG2PA+1 (R243). -/
def execWr8Bg2pa1 (data : Byte) (s : State) : Answer := .next (busWrite8 (.reg (.bgpa .n0) .hi) data s)

/-- RD8 BG2PA+1 (R242). -/
def execRd8Bg2pa1 (s : State) : Answer := .next (busRead8 (.reg (.bgpa .n0) .hi) s)

/-- WR16 BG2PA (R231, R243). -/
def execWr16Bg2pa (data : Half) (s : State) : Answer := .next (busWrite16 (.reg (.bgpa .n0) .lo) data s)

/-- RD16 BG2PA (R230, R242). -/
def execRd16Bg2pa (s : State) : Answer := .next (busRead16 (.reg (.bgpa .n0) .lo) s)

/-- WR8 BG2PB+0 (R243). -/
def execWr8Bg2pb0 (data : Byte) (s : State) : Answer := .next (busWrite8 (.reg (.bgpb .n0) .lo) data s)

/-- RD8 BG2PB+0 (R242). -/
def execRd8Bg2pb0 (s : State) : Answer := .next (busRead8 (.reg (.bgpb .n0) .lo) s)

/-- WR8 BG2PB+1 (R243). -/
def execWr8Bg2pb1 (data : Byte) (s : State) : Answer := .next (busWrite8 (.reg (.bgpb .n0) .hi) data s)

/-- RD8 BG2PB+1 (R242). -/
def execRd8Bg2pb1 (s : State) : Answer := .next (busRead8 (.reg (.bgpb .n0) .hi) s)

/-- WR16 BG2PB (R231, R243). -/
def execWr16Bg2pb (data : Half) (s : State) : Answer := .next (busWrite16 (.reg (.bgpb .n0) .lo) data s)

/-- RD16 BG2PB (R230, R242). -/
def execRd16Bg2pb (s : State) : Answer := .next (busRead16 (.reg (.bgpb .n0) .lo) s)

/-- WR8 BG2PC+0 (R243). -/
def execWr8Bg2pc0 (data : Byte) (s : State) : Answer := .next (busWrite8 (.reg (.bgpc .n0) .lo) data s)

/-- RD8 BG2PC+0 (R242). -/
def execRd8Bg2pc0 (s : State) : Answer := .next (busRead8 (.reg (.bgpc .n0) .lo) s)

/-- WR8 BG2PC+1 (R243). -/
def execWr8Bg2pc1 (data : Byte) (s : State) : Answer := .next (busWrite8 (.reg (.bgpc .n0) .hi) data s)

/-- RD8 BG2PC+1 (R242). -/
def execRd8Bg2pc1 (s : State) : Answer := .next (busRead8 (.reg (.bgpc .n0) .hi) s)

/-- WR16 BG2PC (R231, R243). -/
def execWr16Bg2pc (data : Half) (s : State) : Answer := .next (busWrite16 (.reg (.bgpc .n0) .lo) data s)

/-- RD16 BG2PC (R230, R242). -/
def execRd16Bg2pc (s : State) : Answer := .next (busRead16 (.reg (.bgpc .n0) .lo) s)

/-- WR8 BG2PD+0 (R243). -/
def execWr8Bg2pd0 (data : Byte) (s : State) : Answer := .next (busWrite8 (.reg (.bgpd .n0) .lo) data s)

/-- RD8 BG2PD+0 (R242). -/
def execRd8Bg2pd0 (s : State) : Answer := .next (busRead8 (.reg (.bgpd .n0) .lo) s)

/-- WR8 BG2PD+1 (R243). -/
def execWr8Bg2pd1 (data : Byte) (s : State) : Answer := .next (busWrite8 (.reg (.bgpd .n0) .hi) data s)

/-- RD8 BG2PD+1 (R242). -/
def execRd8Bg2pd1 (s : State) : Answer := .next (busRead8 (.reg (.bgpd .n0) .hi) s)

/-- WR16 BG2PD (R231, R243). -/
def execWr16Bg2pd (data : Half) (s : State) : Answer := .next (busWrite16 (.reg (.bgpd .n0) .lo) data s)

/-- RD16 BG2PD (R230, R242). -/
def execRd16Bg2pd (s : State) : Answer := .next (busRead16 (.reg (.bgpd .n0) .lo) s)

/-- WR8 BG2X+0 (R244). -/
def execWr8Bg2x0 (data : Byte) (s : State) : Answer := .next (busWrite8 (.reg (.bgxLow .n0) .lo) data s)

/-- RD8 BG2X+0 (R242). -/
def execRd8Bg2x0 (s : State) : Answer := .next (busRead8 (.reg (.bgxLow .n0) .lo) s)

/-- WR8 BG2X+1 (R244). -/
def execWr8Bg2x1 (data : Byte) (s : State) : Answer := .next (busWrite8 (.reg (.bgxLow .n0) .hi) data s)

/-- RD8 BG2X+1 (R242). -/
def execRd8Bg2x1 (s : State) : Answer := .next (busRead8 (.reg (.bgxLow .n0) .hi) s)

/-- WR8 BG2X+2 (R244). -/
def execWr8Bg2x2 (data : Byte) (s : State) : Answer := .next (busWrite8 (.reg (.bgxHigh .n0) .lo) data s)

/-- RD8 BG2X+2 (R242). -/
def execRd8Bg2x2 (s : State) : Answer := .next (busRead8 (.reg (.bgxHigh .n0) .lo) s)

/-- WR8 BG2X+3 (R244). -/
def execWr8Bg2x3 (data : Byte) (s : State) : Answer := .next (busWrite8 (.reg (.bgxHigh .n0) .hi) data s)

/-- RD8 BG2X+3 (R242). -/
def execRd8Bg2x3 (s : State) : Answer := .next (busRead8 (.reg (.bgxHigh .n0) .hi) s)

/-- WR16 BG2X+0 (R231, R244). -/
def execWr16Bg2x0 (data : Half) (s : State) : Answer := .next (busWrite16 (.reg (.bgxLow .n0) .lo) data s)

/-- RD16 BG2X+0 (R230, R242). -/
def execRd16Bg2x0 (s : State) : Answer := .next (busRead16 (.reg (.bgxLow .n0) .lo) s)

/-- WR16 BG2X+2 (R231, R244). -/
def execWr16Bg2x2 (data : Half) (s : State) : Answer := .next (busWrite16 (.reg (.bgxHigh .n0) .lo) data s)

/-- RD16 BG2X+2 (R230, R242). -/
def execRd16Bg2x2 (s : State) : Answer := .next (busRead16 (.reg (.bgxHigh .n0) .lo) s)

/-- WR8 BG2Y+0 (R244). -/
def execWr8Bg2y0 (data : Byte) (s : State) : Answer := .next (busWrite8 (.reg (.bgyLow .n0) .lo) data s)

/-- RD8 BG2Y+0 (R242). -/
def execRd8Bg2y0 (s : State) : Answer := .next (busRead8 (.reg (.bgyLow .n0) .lo) s)

/-- WR8 BG2Y+1 (R244). -/
def execWr8Bg2y1 (data : Byte) (s : State) : Answer := .next (busWrite8 (.reg (.bgyLow .n0) .hi) data s)

/-- RD8 BG2Y+1 (R242). -/
def execRd8Bg2y1 (s : State) : Answer := .next (busRead8 (.reg (.bgyLow .n0) .hi) s)

/-- WR8 BG2Y+2 (R244). -/
def execWr8Bg2y2 (data : Byte) (s : State) : Answer := .next (busWrite8 (.reg (.bgyHigh .n0) .lo) data s)

/-- RD8 BG2Y+2 (R242). -/
def execRd8Bg2y2 (s : State) : Answer := .next (busRead8 (.reg (.bgyHigh .n0) .lo) s)

/-- WR8 BG2Y+3 (R244). -/
def execWr8Bg2y3 (data : Byte) (s : State) : Answer := .next (busWrite8 (.reg (.bgyHigh .n0) .hi) data s)

/-- RD8 BG2Y+3 (R242). -/
def execRd8Bg2y3 (s : State) : Answer := .next (busRead8 (.reg (.bgyHigh .n0) .hi) s)

/-- WR16 BG2Y+0 (R231, R244). -/
def execWr16Bg2y0 (data : Half) (s : State) : Answer := .next (busWrite16 (.reg (.bgyLow .n0) .lo) data s)

/-- RD16 BG2Y+0 (R230, R242). -/
def execRd16Bg2y0 (s : State) : Answer := .next (busRead16 (.reg (.bgyLow .n0) .lo) s)

/-- WR16 BG2Y+2 (R231, R244). -/
def execWr16Bg2y2 (data : Half) (s : State) : Answer := .next (busWrite16 (.reg (.bgyHigh .n0) .lo) data s)

/-- RD16 BG2Y+2 (R230, R242). -/
def execRd16Bg2y2 (s : State) : Answer := .next (busRead16 (.reg (.bgyHigh .n0) .lo) s)

/-- WR8 BG3PA+0 (R243). -/
def execWr8Bg3pa0 (data : Byte) (s : State) : Answer := .next (busWrite8 (.reg (.bgpa .n1) .lo) data s)

/-- RD8 BG3PA+0 (R242). -/
def execRd8Bg3pa0 (s : State) : Answer := .next (busRead8 (.reg (.bgpa .n1) .lo) s)

/-- WR8 BG3PA+1 (R243). -/
def execWr8Bg3pa1 (data : Byte) (s : State) : Answer := .next (busWrite8 (.reg (.bgpa .n1) .hi) data s)

/-- RD8 BG3PA+1 (R242). -/
def execRd8Bg3pa1 (s : State) : Answer := .next (busRead8 (.reg (.bgpa .n1) .hi) s)

/-- WR16 BG3PA (R231, R243). -/
def execWr16Bg3pa (data : Half) (s : State) : Answer := .next (busWrite16 (.reg (.bgpa .n1) .lo) data s)

/-- RD16 BG3PA (R230, R242). -/
def execRd16Bg3pa (s : State) : Answer := .next (busRead16 (.reg (.bgpa .n1) .lo) s)

/-- WR8 BG3PB+0 (R243). -/
def execWr8Bg3pb0 (data : Byte) (s : State) : Answer := .next (busWrite8 (.reg (.bgpb .n1) .lo) data s)

/-- RD8 BG3PB+0 (R242). -/
def execRd8Bg3pb0 (s : State) : Answer := .next (busRead8 (.reg (.bgpb .n1) .lo) s)

/-- WR8 BG3PB+1 (R243). -/
def execWr8Bg3pb1 (data : Byte) (s : State) : Answer := .next (busWrite8 (.reg (.bgpb .n1) .hi) data s)

/-- RD8 BG3PB+1 (R242). -/
def execRd8Bg3pb1 (s : State) : Answer := .next (busRead8 (.reg (.bgpb .n1) .hi) s)

/-- WR16 BG3PB (R231, R243). -/
def execWr16Bg3pb (data : Half) (s : State) : Answer := .next (busWrite16 (.reg (.bgpb .n1) .lo) data s)

/-- RD16 BG3PB (R230, R242). -/
def execRd16Bg3pb (s : State) : Answer := .next (busRead16 (.reg (.bgpb .n1) .lo) s)

/-- WR8 BG3PC+0 (R243). -/
def execWr8Bg3pc0 (data : Byte) (s : State) : Answer := .next (busWrite8 (.reg (.bgpc .n1) .lo) data s)

/-- RD8 BG3PC+0 (R242). -/
def execRd8Bg3pc0 (s : State) : Answer := .next (busRead8 (.reg (.bgpc .n1) .lo) s)

/-- WR8 BG3PC+1 (R243). -/
def execWr8Bg3pc1 (data : Byte) (s : State) : Answer := .next (busWrite8 (.reg (.bgpc .n1) .hi) data s)

/-- RD8 BG3PC+1 (R242). -/
def execRd8Bg3pc1 (s : State) : Answer := .next (busRead8 (.reg (.bgpc .n1) .hi) s)

/-- WR16 BG3PC (R231, R243). -/
def execWr16Bg3pc (data : Half) (s : State) : Answer := .next (busWrite16 (.reg (.bgpc .n1) .lo) data s)

/-- RD16 BG3PC (R230, R242). -/
def execRd16Bg3pc (s : State) : Answer := .next (busRead16 (.reg (.bgpc .n1) .lo) s)

/-- WR8 BG3PD+0 (R243). -/
def execWr8Bg3pd0 (data : Byte) (s : State) : Answer := .next (busWrite8 (.reg (.bgpd .n1) .lo) data s)

/-- RD8 BG3PD+0 (R242). -/
def execRd8Bg3pd0 (s : State) : Answer := .next (busRead8 (.reg (.bgpd .n1) .lo) s)

/-- WR8 BG3PD+1 (R243). -/
def execWr8Bg3pd1 (data : Byte) (s : State) : Answer := .next (busWrite8 (.reg (.bgpd .n1) .hi) data s)

/-- RD8 BG3PD+1 (R242). -/
def execRd8Bg3pd1 (s : State) : Answer := .next (busRead8 (.reg (.bgpd .n1) .hi) s)

/-- WR16 BG3PD (R231, R243). -/
def execWr16Bg3pd (data : Half) (s : State) : Answer := .next (busWrite16 (.reg (.bgpd .n1) .lo) data s)

/-- RD16 BG3PD (R230, R242). -/
def execRd16Bg3pd (s : State) : Answer := .next (busRead16 (.reg (.bgpd .n1) .lo) s)

/-- WR8 BG3X+0 (R244). -/
def execWr8Bg3x0 (data : Byte) (s : State) : Answer := .next (busWrite8 (.reg (.bgxLow .n1) .lo) data s)

/-- RD8 BG3X+0 (R242). -/
def execRd8Bg3x0 (s : State) : Answer := .next (busRead8 (.reg (.bgxLow .n1) .lo) s)

/-- WR8 BG3X+1 (R244). -/
def execWr8Bg3x1 (data : Byte) (s : State) : Answer := .next (busWrite8 (.reg (.bgxLow .n1) .hi) data s)

/-- RD8 BG3X+1 (R242). -/
def execRd8Bg3x1 (s : State) : Answer := .next (busRead8 (.reg (.bgxLow .n1) .hi) s)

/-- WR8 BG3X+2 (R244). -/
def execWr8Bg3x2 (data : Byte) (s : State) : Answer := .next (busWrite8 (.reg (.bgxHigh .n1) .lo) data s)

/-- RD8 BG3X+2 (R242). -/
def execRd8Bg3x2 (s : State) : Answer := .next (busRead8 (.reg (.bgxHigh .n1) .lo) s)

/-- WR8 BG3X+3 (R244). -/
def execWr8Bg3x3 (data : Byte) (s : State) : Answer := .next (busWrite8 (.reg (.bgxHigh .n1) .hi) data s)

/-- RD8 BG3X+3 (R242). -/
def execRd8Bg3x3 (s : State) : Answer := .next (busRead8 (.reg (.bgxHigh .n1) .hi) s)

/-- WR16 BG3X+0 (R231, R244). -/
def execWr16Bg3x0 (data : Half) (s : State) : Answer := .next (busWrite16 (.reg (.bgxLow .n1) .lo) data s)

/-- RD16 BG3X+0 (R230, R242). -/
def execRd16Bg3x0 (s : State) : Answer := .next (busRead16 (.reg (.bgxLow .n1) .lo) s)

/-- WR16 BG3X+2 (R231, R244). -/
def execWr16Bg3x2 (data : Half) (s : State) : Answer := .next (busWrite16 (.reg (.bgxHigh .n1) .lo) data s)

/-- RD16 BG3X+2 (R230, R242). -/
def execRd16Bg3x2 (s : State) : Answer := .next (busRead16 (.reg (.bgxHigh .n1) .lo) s)

/-- WR8 BG3Y+0 (R244). -/
def execWr8Bg3y0 (data : Byte) (s : State) : Answer := .next (busWrite8 (.reg (.bgyLow .n1) .lo) data s)

/-- RD8 BG3Y+0 (R242). -/
def execRd8Bg3y0 (s : State) : Answer := .next (busRead8 (.reg (.bgyLow .n1) .lo) s)

/-- WR8 BG3Y+1 (R244). -/
def execWr8Bg3y1 (data : Byte) (s : State) : Answer := .next (busWrite8 (.reg (.bgyLow .n1) .hi) data s)

/-- RD8 BG3Y+1 (R242). -/
def execRd8Bg3y1 (s : State) : Answer := .next (busRead8 (.reg (.bgyLow .n1) .hi) s)

/-- WR8 BG3Y+2 (R244). -/
def execWr8Bg3y2 (data : Byte) (s : State) : Answer := .next (busWrite8 (.reg (.bgyHigh .n1) .lo) data s)

/-- RD8 BG3Y+2 (R242). -/
def execRd8Bg3y2 (s : State) : Answer := .next (busRead8 (.reg (.bgyHigh .n1) .lo) s)

/-- WR8 BG3Y+3 (R244). -/
def execWr8Bg3y3 (data : Byte) (s : State) : Answer := .next (busWrite8 (.reg (.bgyHigh .n1) .hi) data s)

/-- RD8 BG3Y+3 (R242). -/
def execRd8Bg3y3 (s : State) : Answer := .next (busRead8 (.reg (.bgyHigh .n1) .hi) s)

/-- WR16 BG3Y+0 (R231, R244). -/
def execWr16Bg3y0 (data : Half) (s : State) : Answer := .next (busWrite16 (.reg (.bgyLow .n1) .lo) data s)

/-- RD16 BG3Y+0 (R230, R242). -/
def execRd16Bg3y0 (s : State) : Answer := .next (busRead16 (.reg (.bgyLow .n1) .lo) s)

/-- WR16 BG3Y+2 (R231, R244). -/
def execWr16Bg3y2 (data : Half) (s : State) : Answer := .next (busWrite16 (.reg (.bgyHigh .n1) .lo) data s)

/-- RD16 BG3Y+2 (R230, R242). -/
def execRd16Bg3y2 (s : State) : Answer := .next (busRead16 (.reg (.bgyHigh .n1) .lo) s)

end Sys2Proof.Machine
end

