-- ==== Sys2Proof/Machine/DisplayRegs.lean ====
section
/-! DEFINITION. Machine/DisplayRegs.lean: the meanings of the rows of DISPCNT, DISPSTAT, VCOUNT, BGnCNT, BGnHOFS and BGnVOFS. -/

namespace Sys2Proof.Machine

/-- WR8 DISPCNT+0 (R232). -/
def execWr8Dispcnt0 (data : Byte) (s : State) : Answer := .next (busWrite8 (.reg .dispcnt .lo) data s)

/-- RD8 DISPCNT+0 (R234). -/
def execRd8Dispcnt0 (s : State) : Answer := .next (busRead8 (.reg .dispcnt .lo) s)

/-- WR8 DISPCNT+1 (R233). -/
def execWr8Dispcnt1 (data : Byte) (s : State) : Answer := .next (busWrite8 (.reg .dispcnt .hi) data s)

/-- RD8 DISPCNT+1 (R234). -/
def execRd8Dispcnt1 (s : State) : Answer := .next (busRead8 (.reg .dispcnt .hi) s)

/-- WR16 DISPCNT (R231, R232, R233). -/
def execWr16Dispcnt (data : Half) (s : State) : Answer := .next (busWrite16 (.reg .dispcnt .lo) data s)

/-- RD16 DISPCNT (R230, R234). -/
def execRd16Dispcnt (s : State) : Answer := .next (busRead16 (.reg .dispcnt .lo) s)

/-- WR8 DISPSTAT+0 (R236). -/
def execWr8Dispstat0 (data : Byte) (s : State) : Answer := .next (busWrite8 (.reg .dispstat .lo) data s)

/-- RD8 DISPSTAT+0 (R235). -/
def execRd8Dispstat0 (s : State) : Answer := .next (busRead8 (.reg .dispstat .lo) s)

/-- WR8 DISPSTAT+1 (R237). -/
def execWr8Dispstat1 (data : Byte) (s : State) : Answer := .next (busWrite8 (.reg .dispstat .hi) data s)

/-- RD8 DISPSTAT+1 (R235). -/
def execRd8Dispstat1 (s : State) : Answer := .next (busRead8 (.reg .dispstat .hi) s)

/-- WR16 DISPSTAT (R231, R236, R237). -/
def execWr16Dispstat (data : Half) (s : State) : Answer := .next (busWrite16 (.reg .dispstat .lo) data s)

/-- RD16 DISPSTAT (R230, R235). -/
def execRd16Dispstat (s : State) : Answer := .next (busRead16 (.reg .dispstat .lo) s)

/-- WR8 VCOUNT+0 (R238). -/
def execWr8Vcount0 (data : Byte) (s : State) : Answer := .next (busWrite8 (.reg .vcount .lo) data s)

/-- RD8 VCOUNT+0 (R238). -/
def execRd8Vcount0 (s : State) : Answer := .next (busRead8 (.reg .vcount .lo) s)

/-- WR8 VCOUNT+1 (R238). -/
def execWr8Vcount1 (data : Byte) (s : State) : Answer := .next (busWrite8 (.reg .vcount .hi) data s)

/-- RD8 VCOUNT+1 (R238). -/
def execRd8Vcount1 (s : State) : Answer := .next (busRead8 (.reg .vcount .hi) s)

/-- WR16 VCOUNT (R231, R238). -/
def execWr16Vcount (data : Half) (s : State) : Answer := .next (busWrite16 (.reg .vcount .lo) data s)

/-- RD16 VCOUNT (R230, R238). -/
def execRd16Vcount (s : State) : Answer := .next (busRead16 (.reg .vcount .lo) s)

/-- WR8 BG0CNT+0 (R239). -/
def execWr8Bg0cnt0 (data : Byte) (s : State) : Answer := .next (busWrite8 (.reg (.bgcnt .n0) .lo) data s)

/-- RD8 BG0CNT+0 (R240). -/
def execRd8Bg0cnt0 (s : State) : Answer := .next (busRead8 (.reg (.bgcnt .n0) .lo) s)

/-- WR8 BG0CNT+1 (R239). -/
def execWr8Bg0cnt1 (data : Byte) (s : State) : Answer := .next (busWrite8 (.reg (.bgcnt .n0) .hi) data s)

/-- RD8 BG0CNT+1 (R240). -/
def execRd8Bg0cnt1 (s : State) : Answer := .next (busRead8 (.reg (.bgcnt .n0) .hi) s)

/-- WR16 BG0CNT (R231, R239). -/
def execWr16Bg0cnt (data : Half) (s : State) : Answer := .next (busWrite16 (.reg (.bgcnt .n0) .lo) data s)

/-- RD16 BG0CNT (R230, R240). -/
def execRd16Bg0cnt (s : State) : Answer := .next (busRead16 (.reg (.bgcnt .n0) .lo) s)

/-- WR8 BG1CNT+0 (R239). -/
def execWr8Bg1cnt0 (data : Byte) (s : State) : Answer := .next (busWrite8 (.reg (.bgcnt .n1) .lo) data s)

/-- RD8 BG1CNT+0 (R240). -/
def execRd8Bg1cnt0 (s : State) : Answer := .next (busRead8 (.reg (.bgcnt .n1) .lo) s)

/-- WR8 BG1CNT+1 (R239). -/
def execWr8Bg1cnt1 (data : Byte) (s : State) : Answer := .next (busWrite8 (.reg (.bgcnt .n1) .hi) data s)

/-- RD8 BG1CNT+1 (R240). -/
def execRd8Bg1cnt1 (s : State) : Answer := .next (busRead8 (.reg (.bgcnt .n1) .hi) s)

/-- WR16 BG1CNT (R231, R239). -/
def execWr16Bg1cnt (data : Half) (s : State) : Answer := .next (busWrite16 (.reg (.bgcnt .n1) .lo) data s)

/-- RD16 BG1CNT (R230, R240). -/
def execRd16Bg1cnt (s : State) : Answer := .next (busRead16 (.reg (.bgcnt .n1) .lo) s)

/-- WR8 BG2CNT+0 (R239). -/
def execWr8Bg2cnt0 (data : Byte) (s : State) : Answer := .next (busWrite8 (.reg (.bgcnt .n2) .lo) data s)

/-- RD8 BG2CNT+0 (R240). -/
def execRd8Bg2cnt0 (s : State) : Answer := .next (busRead8 (.reg (.bgcnt .n2) .lo) s)

/-- WR8 BG2CNT+1 (R239). -/
def execWr8Bg2cnt1 (data : Byte) (s : State) : Answer := .next (busWrite8 (.reg (.bgcnt .n2) .hi) data s)

/-- RD8 BG2CNT+1 (R240). -/
def execRd8Bg2cnt1 (s : State) : Answer := .next (busRead8 (.reg (.bgcnt .n2) .hi) s)

/-- WR16 BG2CNT (R231, R239). -/
def execWr16Bg2cnt (data : Half) (s : State) : Answer := .next (busWrite16 (.reg (.bgcnt .n2) .lo) data s)

/-- RD16 BG2CNT (R230, R240). -/
def execRd16Bg2cnt (s : State) : Answer := .next (busRead16 (.reg (.bgcnt .n2) .lo) s)

/-- WR8 BG3CNT+0 (R239). -/
def execWr8Bg3cnt0 (data : Byte) (s : State) : Answer := .next (busWrite8 (.reg (.bgcnt .n3) .lo) data s)

/-- RD8 BG3CNT+0 (R240). -/
def execRd8Bg3cnt0 (s : State) : Answer := .next (busRead8 (.reg (.bgcnt .n3) .lo) s)

/-- WR8 BG3CNT+1 (R239). -/
def execWr8Bg3cnt1 (data : Byte) (s : State) : Answer := .next (busWrite8 (.reg (.bgcnt .n3) .hi) data s)

/-- RD8 BG3CNT+1 (R240). -/
def execRd8Bg3cnt1 (s : State) : Answer := .next (busRead8 (.reg (.bgcnt .n3) .hi) s)

/-- WR16 BG3CNT (R231, R239). -/
def execWr16Bg3cnt (data : Half) (s : State) : Answer := .next (busWrite16 (.reg (.bgcnt .n3) .lo) data s)

/-- RD16 BG3CNT (R230, R240). -/
def execRd16Bg3cnt (s : State) : Answer := .next (busRead16 (.reg (.bgcnt .n3) .lo) s)

/-- WR8 BG0HOFS+0 (R241). -/
def execWr8Bg0hofs0 (data : Byte) (s : State) : Answer := .next (busWrite8 (.reg (.bghofs .n0) .lo) data s)

/-- RD8 BG0HOFS+0 (R242). -/
def execRd8Bg0hofs0 (s : State) : Answer := .next (busRead8 (.reg (.bghofs .n0) .lo) s)

/-- WR8 BG0HOFS+1 (R241). -/
def execWr8Bg0hofs1 (data : Byte) (s : State) : Answer := .next (busWrite8 (.reg (.bghofs .n0) .hi) data s)

/-- RD8 BG0HOFS+1 (R242). -/
def execRd8Bg0hofs1 (s : State) : Answer := .next (busRead8 (.reg (.bghofs .n0) .hi) s)

/-- WR16 BG0HOFS (R231, R241). -/
def execWr16Bg0hofs (data : Half) (s : State) : Answer := .next (busWrite16 (.reg (.bghofs .n0) .lo) data s)

/-- RD16 BG0HOFS (R230, R242). -/
def execRd16Bg0hofs (s : State) : Answer := .next (busRead16 (.reg (.bghofs .n0) .lo) s)

/-- WR8 BG0VOFS+0 (R241). -/
def execWr8Bg0vofs0 (data : Byte) (s : State) : Answer := .next (busWrite8 (.reg (.bgvofs .n0) .lo) data s)

/-- RD8 BG0VOFS+0 (R242). -/
def execRd8Bg0vofs0 (s : State) : Answer := .next (busRead8 (.reg (.bgvofs .n0) .lo) s)

/-- WR8 BG0VOFS+1 (R241). -/
def execWr8Bg0vofs1 (data : Byte) (s : State) : Answer := .next (busWrite8 (.reg (.bgvofs .n0) .hi) data s)

/-- RD8 BG0VOFS+1 (R242). -/
def execRd8Bg0vofs1 (s : State) : Answer := .next (busRead8 (.reg (.bgvofs .n0) .hi) s)

/-- WR16 BG0VOFS (R231, R241). -/
def execWr16Bg0vofs (data : Half) (s : State) : Answer := .next (busWrite16 (.reg (.bgvofs .n0) .lo) data s)

/-- RD16 BG0VOFS (R230, R242). -/
def execRd16Bg0vofs (s : State) : Answer := .next (busRead16 (.reg (.bgvofs .n0) .lo) s)

/-- WR8 BG1HOFS+0 (R241). -/
def execWr8Bg1hofs0 (data : Byte) (s : State) : Answer := .next (busWrite8 (.reg (.bghofs .n1) .lo) data s)

/-- RD8 BG1HOFS+0 (R242). -/
def execRd8Bg1hofs0 (s : State) : Answer := .next (busRead8 (.reg (.bghofs .n1) .lo) s)

/-- WR8 BG1HOFS+1 (R241). -/
def execWr8Bg1hofs1 (data : Byte) (s : State) : Answer := .next (busWrite8 (.reg (.bghofs .n1) .hi) data s)

/-- RD8 BG1HOFS+1 (R242). -/
def execRd8Bg1hofs1 (s : State) : Answer := .next (busRead8 (.reg (.bghofs .n1) .hi) s)

/-- WR16 BG1HOFS (R231, R241). -/
def execWr16Bg1hofs (data : Half) (s : State) : Answer := .next (busWrite16 (.reg (.bghofs .n1) .lo) data s)

/-- RD16 BG1HOFS (R230, R242). -/
def execRd16Bg1hofs (s : State) : Answer := .next (busRead16 (.reg (.bghofs .n1) .lo) s)

/-- WR8 BG1VOFS+0 (R241). -/
def execWr8Bg1vofs0 (data : Byte) (s : State) : Answer := .next (busWrite8 (.reg (.bgvofs .n1) .lo) data s)

/-- RD8 BG1VOFS+0 (R242). -/
def execRd8Bg1vofs0 (s : State) : Answer := .next (busRead8 (.reg (.bgvofs .n1) .lo) s)

/-- WR8 BG1VOFS+1 (R241). -/
def execWr8Bg1vofs1 (data : Byte) (s : State) : Answer := .next (busWrite8 (.reg (.bgvofs .n1) .hi) data s)

/-- RD8 BG1VOFS+1 (R242). -/
def execRd8Bg1vofs1 (s : State) : Answer := .next (busRead8 (.reg (.bgvofs .n1) .hi) s)

/-- WR16 BG1VOFS (R231, R241). -/
def execWr16Bg1vofs (data : Half) (s : State) : Answer := .next (busWrite16 (.reg (.bgvofs .n1) .lo) data s)

/-- RD16 BG1VOFS (R230, R242). -/
def execRd16Bg1vofs (s : State) : Answer := .next (busRead16 (.reg (.bgvofs .n1) .lo) s)

/-- WR8 BG2HOFS+0 (R241). -/
def execWr8Bg2hofs0 (data : Byte) (s : State) : Answer := .next (busWrite8 (.reg (.bghofs .n2) .lo) data s)

/-- RD8 BG2HOFS+0 (R242). -/
def execRd8Bg2hofs0 (s : State) : Answer := .next (busRead8 (.reg (.bghofs .n2) .lo) s)

/-- WR8 BG2HOFS+1 (R241). -/
def execWr8Bg2hofs1 (data : Byte) (s : State) : Answer := .next (busWrite8 (.reg (.bghofs .n2) .hi) data s)

/-- RD8 BG2HOFS+1 (R242). -/
def execRd8Bg2hofs1 (s : State) : Answer := .next (busRead8 (.reg (.bghofs .n2) .hi) s)

/-- WR16 BG2HOFS (R231, R241). -/
def execWr16Bg2hofs (data : Half) (s : State) : Answer := .next (busWrite16 (.reg (.bghofs .n2) .lo) data s)

/-- RD16 BG2HOFS (R230, R242). -/
def execRd16Bg2hofs (s : State) : Answer := .next (busRead16 (.reg (.bghofs .n2) .lo) s)

/-- WR8 BG2VOFS+0 (R241). -/
def execWr8Bg2vofs0 (data : Byte) (s : State) : Answer := .next (busWrite8 (.reg (.bgvofs .n2) .lo) data s)

/-- RD8 BG2VOFS+0 (R242). -/
def execRd8Bg2vofs0 (s : State) : Answer := .next (busRead8 (.reg (.bgvofs .n2) .lo) s)

/-- WR8 BG2VOFS+1 (R241). -/
def execWr8Bg2vofs1 (data : Byte) (s : State) : Answer := .next (busWrite8 (.reg (.bgvofs .n2) .hi) data s)

/-- RD8 BG2VOFS+1 (R242). -/
def execRd8Bg2vofs1 (s : State) : Answer := .next (busRead8 (.reg (.bgvofs .n2) .hi) s)

/-- WR16 BG2VOFS (R231, R241). -/
def execWr16Bg2vofs (data : Half) (s : State) : Answer := .next (busWrite16 (.reg (.bgvofs .n2) .lo) data s)

/-- RD16 BG2VOFS (R230, R242). -/
def execRd16Bg2vofs (s : State) : Answer := .next (busRead16 (.reg (.bgvofs .n2) .lo) s)

/-- WR8 BG3HOFS+0 (R241). -/
def execWr8Bg3hofs0 (data : Byte) (s : State) : Answer := .next (busWrite8 (.reg (.bghofs .n3) .lo) data s)

/-- RD8 BG3HOFS+0 (R242). -/
def execRd8Bg3hofs0 (s : State) : Answer := .next (busRead8 (.reg (.bghofs .n3) .lo) s)

/-- WR8 BG3HOFS+1 (R241). -/
def execWr8Bg3hofs1 (data : Byte) (s : State) : Answer := .next (busWrite8 (.reg (.bghofs .n3) .hi) data s)

/-- RD8 BG3HOFS+1 (R242). -/
def execRd8Bg3hofs1 (s : State) : Answer := .next (busRead8 (.reg (.bghofs .n3) .hi) s)

/-- WR16 BG3HOFS (R231, R241). -/
def execWr16Bg3hofs (data : Half) (s : State) : Answer := .next (busWrite16 (.reg (.bghofs .n3) .lo) data s)

/-- RD16 BG3HOFS (R230, R242). -/
def execRd16Bg3hofs (s : State) : Answer := .next (busRead16 (.reg (.bghofs .n3) .lo) s)

/-- WR8 BG3VOFS+0 (R241). -/
def execWr8Bg3vofs0 (data : Byte) (s : State) : Answer := .next (busWrite8 (.reg (.bgvofs .n3) .lo) data s)

/-- RD8 BG3VOFS+0 (R242). -/
def execRd8Bg3vofs0 (s : State) : Answer := .next (busRead8 (.reg (.bgvofs .n3) .lo) s)

/-- WR8 BG3VOFS+1 (R241). -/
def execWr8Bg3vofs1 (data : Byte) (s : State) : Answer := .next (busWrite8 (.reg (.bgvofs .n3) .hi) data s)

/-- RD8 BG3VOFS+1 (R242). -/
def execRd8Bg3vofs1 (s : State) : Answer := .next (busRead8 (.reg (.bgvofs .n3) .hi) s)

/-- WR16 BG3VOFS (R231, R241). -/
def execWr16Bg3vofs (data : Half) (s : State) : Answer := .next (busWrite16 (.reg (.bgvofs .n3) .lo) data s)

/-- RD16 BG3VOFS (R230, R242). -/
def execRd16Bg3vofs (s : State) : Answer := .next (busRead16 (.reg (.bgvofs .n3) .lo) s)

end Sys2Proof.Machine
end

