-- ==== Sys2Proof/Machine/EffectRegs.lean ====
section
/-! DEFINITION. Machine/EffectRegs.lean: the meanings of the rows of the window, mosaic and blend registers. -/

namespace Sys2Proof.Machine

/-- WR8 WIN0H+0 (R245). -/
def execWr8Win0h0 (data : Byte) (s : State) : Answer := .next (busWrite8 (.reg (.winh .n0) .lo) data s)

/-- RD8 WIN0H+0 (R242). -/
def execRd8Win0h0 (s : State) : Answer := .next (busRead8 (.reg (.winh .n0) .lo) s)

/-- WR8 WIN0H+1 (R245). -/
def execWr8Win0h1 (data : Byte) (s : State) : Answer := .next (busWrite8 (.reg (.winh .n0) .hi) data s)

/-- RD8 WIN0H+1 (R242). -/
def execRd8Win0h1 (s : State) : Answer := .next (busRead8 (.reg (.winh .n0) .hi) s)

/-- WR16 WIN0H (R231, R245). -/
def execWr16Win0h (data : Half) (s : State) : Answer := .next (busWrite16 (.reg (.winh .n0) .lo) data s)

/-- RD16 WIN0H (R230, R242). -/
def execRd16Win0h (s : State) : Answer := .next (busRead16 (.reg (.winh .n0) .lo) s)

/-- WR8 WIN1H+0 (R245). -/
def execWr8Win1h0 (data : Byte) (s : State) : Answer := .next (busWrite8 (.reg (.winh .n1) .lo) data s)

/-- RD8 WIN1H+0 (R242). -/
def execRd8Win1h0 (s : State) : Answer := .next (busRead8 (.reg (.winh .n1) .lo) s)

/-- WR8 WIN1H+1 (R245). -/
def execWr8Win1h1 (data : Byte) (s : State) : Answer := .next (busWrite8 (.reg (.winh .n1) .hi) data s)

/-- RD8 WIN1H+1 (R242). -/
def execRd8Win1h1 (s : State) : Answer := .next (busRead8 (.reg (.winh .n1) .hi) s)

/-- WR16 WIN1H (R231, R245). -/
def execWr16Win1h (data : Half) (s : State) : Answer := .next (busWrite16 (.reg (.winh .n1) .lo) data s)

/-- RD16 WIN1H (R230, R242). -/
def execRd16Win1h (s : State) : Answer := .next (busRead16 (.reg (.winh .n1) .lo) s)

/-- WR8 WIN0V+0 (R245). -/
def execWr8Win0v0 (data : Byte) (s : State) : Answer := .next (busWrite8 (.reg (.winv .n0) .lo) data s)

/-- RD8 WIN0V+0 (R242). -/
def execRd8Win0v0 (s : State) : Answer := .next (busRead8 (.reg (.winv .n0) .lo) s)

/-- WR8 WIN0V+1 (R245). -/
def execWr8Win0v1 (data : Byte) (s : State) : Answer := .next (busWrite8 (.reg (.winv .n0) .hi) data s)

/-- RD8 WIN0V+1 (R242). -/
def execRd8Win0v1 (s : State) : Answer := .next (busRead8 (.reg (.winv .n0) .hi) s)

/-- WR16 WIN0V (R231, R245). -/
def execWr16Win0v (data : Half) (s : State) : Answer := .next (busWrite16 (.reg (.winv .n0) .lo) data s)

/-- RD16 WIN0V (R230, R242). -/
def execRd16Win0v (s : State) : Answer := .next (busRead16 (.reg (.winv .n0) .lo) s)

/-- WR8 WIN1V+0 (R245). -/
def execWr8Win1v0 (data : Byte) (s : State) : Answer := .next (busWrite8 (.reg (.winv .n1) .lo) data s)

/-- RD8 WIN1V+0 (R242). -/
def execRd8Win1v0 (s : State) : Answer := .next (busRead8 (.reg (.winv .n1) .lo) s)

/-- WR8 WIN1V+1 (R245). -/
def execWr8Win1v1 (data : Byte) (s : State) : Answer := .next (busWrite8 (.reg (.winv .n1) .hi) data s)

/-- RD8 WIN1V+1 (R242). -/
def execRd8Win1v1 (s : State) : Answer := .next (busRead8 (.reg (.winv .n1) .hi) s)

/-- WR16 WIN1V (R231, R245). -/
def execWr16Win1v (data : Half) (s : State) : Answer := .next (busWrite16 (.reg (.winv .n1) .lo) data s)

/-- RD16 WIN1V (R230, R242). -/
def execRd16Win1v (s : State) : Answer := .next (busRead16 (.reg (.winv .n1) .lo) s)

/-- WR8 WININ+0 (R246). -/
def execWr8Winin0 (data : Byte) (s : State) : Answer := .next (busWrite8 (.reg .winin .lo) data s)

/-- RD8 WININ+0 (R246). -/
def execRd8Winin0 (s : State) : Answer := .next (busRead8 (.reg .winin .lo) s)

/-- WR8 WININ+1 (R246). -/
def execWr8Winin1 (data : Byte) (s : State) : Answer := .next (busWrite8 (.reg .winin .hi) data s)

/-- RD8 WININ+1 (R246). -/
def execRd8Winin1 (s : State) : Answer := .next (busRead8 (.reg .winin .hi) s)

/-- WR16 WININ (R231, R246). -/
def execWr16Winin (data : Half) (s : State) : Answer := .next (busWrite16 (.reg .winin .lo) data s)

/-- RD16 WININ (R230, R246). -/
def execRd16Winin (s : State) : Answer := .next (busRead16 (.reg .winin .lo) s)

/-- WR8 WINOUT+0 (R246). -/
def execWr8Winout0 (data : Byte) (s : State) : Answer := .next (busWrite8 (.reg .winout .lo) data s)

/-- RD8 WINOUT+0 (R246). -/
def execRd8Winout0 (s : State) : Answer := .next (busRead8 (.reg .winout .lo) s)

/-- WR8 WINOUT+1 (R246). -/
def execWr8Winout1 (data : Byte) (s : State) : Answer := .next (busWrite8 (.reg .winout .hi) data s)

/-- RD8 WINOUT+1 (R246). -/
def execRd8Winout1 (s : State) : Answer := .next (busRead8 (.reg .winout .hi) s)

/-- WR16 WINOUT (R231, R246). -/
def execWr16Winout (data : Half) (s : State) : Answer := .next (busWrite16 (.reg .winout .lo) data s)

/-- RD16 WINOUT (R230, R246). -/
def execRd16Winout (s : State) : Answer := .next (busRead16 (.reg .winout .lo) s)

/-- WR8 MOSAIC+0 (R247). -/
def execWr8Mosaic0 (data : Byte) (s : State) : Answer := .next (busWrite8 (.reg .mosaic .lo) data s)

/-- RD8 MOSAIC+0 (R242). -/
def execRd8Mosaic0 (s : State) : Answer := .next (busRead8 (.reg .mosaic .lo) s)

/-- WR8 MOSAIC+1 (R247). -/
def execWr8Mosaic1 (data : Byte) (s : State) : Answer := .next (busWrite8 (.reg .mosaic .hi) data s)

/-- RD8 MOSAIC+1 (R242). -/
def execRd8Mosaic1 (s : State) : Answer := .next (busRead8 (.reg .mosaic .hi) s)

/-- WR16 MOSAIC (R231, R247). -/
def execWr16Mosaic (data : Half) (s : State) : Answer := .next (busWrite16 (.reg .mosaic .lo) data s)

/-- RD16 MOSAIC (R230, R242). -/
def execRd16Mosaic (s : State) : Answer := .next (busRead16 (.reg .mosaic .lo) s)

/-- WR8 BLDCNT+0 (R248). -/
def execWr8Bldcnt0 (data : Byte) (s : State) : Answer := .next (busWrite8 (.reg .bldcnt .lo) data s)

/-- RD8 BLDCNT+0 (R248). -/
def execRd8Bldcnt0 (s : State) : Answer := .next (busRead8 (.reg .bldcnt .lo) s)

/-- WR8 BLDCNT+1 (R248). -/
def execWr8Bldcnt1 (data : Byte) (s : State) : Answer := .next (busWrite8 (.reg .bldcnt .hi) data s)

/-- RD8 BLDCNT+1 (R248). -/
def execRd8Bldcnt1 (s : State) : Answer := .next (busRead8 (.reg .bldcnt .hi) s)

/-- WR16 BLDCNT (R231, R248). -/
def execWr16Bldcnt (data : Half) (s : State) : Answer := .next (busWrite16 (.reg .bldcnt .lo) data s)

/-- RD16 BLDCNT (R230, R248). -/
def execRd16Bldcnt (s : State) : Answer := .next (busRead16 (.reg .bldcnt .lo) s)

/-- WR8 BLDALPHA+0 (R249). -/
def execWr8Bldalpha0 (data : Byte) (s : State) : Answer := .next (busWrite8 (.reg .bldalpha .lo) data s)

/-- RD8 BLDALPHA+0 (R249). -/
def execRd8Bldalpha0 (s : State) : Answer := .next (busRead8 (.reg .bldalpha .lo) s)

/-- WR8 BLDALPHA+1 (R249). -/
def execWr8Bldalpha1 (data : Byte) (s : State) : Answer := .next (busWrite8 (.reg .bldalpha .hi) data s)

/-- RD8 BLDALPHA+1 (R249). -/
def execRd8Bldalpha1 (s : State) : Answer := .next (busRead8 (.reg .bldalpha .hi) s)

/-- WR16 BLDALPHA (R231, R249). -/
def execWr16Bldalpha (data : Half) (s : State) : Answer := .next (busWrite16 (.reg .bldalpha .lo) data s)

/-- RD16 BLDALPHA (R230, R249). -/
def execRd16Bldalpha (s : State) : Answer := .next (busRead16 (.reg .bldalpha .lo) s)

/-- WR8 BLDY+0 (R250). -/
def execWr8Bldy0 (data : Byte) (s : State) : Answer := .next (busWrite8 (.reg .bldy .lo) data s)

/-- RD8 BLDY+0 (R242). -/
def execRd8Bldy0 (s : State) : Answer := .next (busRead8 (.reg .bldy .lo) s)

/-- WR8 BLDY+1 (R250). -/
def execWr8Bldy1 (data : Byte) (s : State) : Answer := .next (busWrite8 (.reg .bldy .hi) data s)

/-- RD8 BLDY+1 (R242). -/
def execRd8Bldy1 (s : State) : Answer := .next (busRead8 (.reg .bldy .hi) s)

/-- WR16 BLDY (R231, R250). -/
def execWr16Bldy (data : Half) (s : State) : Answer := .next (busWrite16 (.reg .bldy .lo) data s)

/-- RD16 BLDY (R230, R242). -/
def execRd16Bldy (s : State) : Answer := .next (busRead16 (.reg .bldy .lo) s)

end Sys2Proof.Machine
end

