-- ==== Sys2Proof/Machine/Timers.lean ====
section
/-! DEFINITION. Machine/Timers.lean: `TimerRun` and its two paths (46_timers.md). -/

namespace Sys2Proof.Machine

/-- The outputs of one timer overflow, in order (R417, R454): `Raise` if enabled, then `TimerOverflow`. -/
def timerOutputs (id : Ix4) (n : Nat) (s : State) : State :=
  emit (.timerOverflow id n) none (raiseIf (s.tm.get id).interrupt (.timer id) none s)

/-- The registers of one free-running timer after `delta` cycles, and how often it wrapped (R413).
Arithmetic is exact, on integers (R8). -/
def Timer.free (t : Timer) (delta : Nat) : Timer × Nat :=
  let avail : Int := t.cycles.toInt + delta
  let inc : Int := avail / 2 ^ prescaleShift t.frequency
  let cycles : BitVec 32 := BitVec.ofInt 32 (avail % (prescaleMask t.frequency + 1))
  let room : Int := 0x10000 - t.counter.toNat
  if inc < room then
    ({ t with cycles := cycles, counter := BitVec.ofInt 16 (t.counter.toNat + inc) }, 0)
  else
    let rem : Int := inc - room
    let period : Int := 0x10000 - t.reload.toNat
    ({ t with
        cycles := cycles
        counter := BitVec.ofInt 16 (t.reload.toNat + rem % period)
        overflow := true },
     (1 + rem / period).toNat)

/-- `StepFree(id, delta)` (R413). -/
def stepFree (id : Ix4) (delta : Nat) (s : State) : State :=
  let (t, overflows) := (s.tm.get id).free delta
  let s1 := setTimer id t s
  if overflows = 0 then s1 else timerOutputs id overflows s1

/-- `StepCascade(id)` with the timer below it (R415). -/
def stepCascade (below id : Ix4) (s : State) : State :=
  if (s.tm.get below).overflow then
    let s1 := setOverflow below false s
    let t := s1.tm.get id
    if t.counter = 0xFFFF then
      timerOutputs id 1 (setTimer id { t with counter := t.reload, overflow := true } s1)
    else setTimer id { t with counter := t.counter + 1 } s1
  else s

/-- The cascaded path of a timer; timer 0 has none and does not count (R418). -/
def cascadePath : Ix4 → State → State
  | .n0, s => s
  | .n1, s => stepCascade .n0 .n1 s
  | .n2, s => stepCascade .n1 .n2 s
  | .n3, s => stepCascade .n2 .n3 s

/-- One timer's turn in a step (R411, R412). -/
def stepTimer (id : Ix4) (delta : Nat) (s : State) : State :=
  if (s.tm.get id).enable then
    if (s.tm.get id).cascade then cascadePath id s else stepFree id delta s
  else s

/-- `TimerRun(delta)` (R411): ascending timers, then all overflow flags cleared. -/
def timerRun (delta : Nat) (s : State) : State :=
  clearOverflows
    (stepTimer .n3 delta (stepTimer .n2 delta (stepTimer .n1 delta (stepTimer .n0 delta s))))

end Sys2Proof.Machine
end

