-- ==== Sys2Proof/Machine/HostCommands.lean ====
section
/-! DEFINITION. Machine/HostCommands.lean: the six host commands of R112. -/

namespace Sys2Proof.Machine

/-- Move the cycle counter (R175). -/
def addCycles (delta : Nat) (s : State) : State :=
  { s with sched := { s.sched with now := s.sched.now + BitVec.ofNat 64 delta } }

/-- ADV (R175, R113): `sched.now` advances, the timers step, the due events fire.
A delta over the bound is refused (R113), and one that would carry `sched.now` past 2^64 - 1 (R21).
While `fault` is set nothing happens (R441). -/
def execAdv (delta : BitVec 32) (s : State) : Answer :=
  if Config.maxDelta < delta.toNat then .refused .deltaOverBound
  else if s.faulted then .next s
  else if s.sched.now.toNat + delta.toNat ≥ 2 ^ 64 then .refused .cycleCounterOverflow
  else .next (advance (timerRun delta.toNat (addCycles delta.toNat s)))

/-- RST (R480), the one command that runs while `fault` is set. -/
def execRst (s : State) : Answer := .next s.rst

/-- RD8 at any address (R230): faulted already, then decode (R446). -/
def execRd8 (addr : BitVec 32) (s : State) : Answer :=
  if s.faulted then .next (returnFreeByte s)
  else
    match decodeAddr addr with
    | none => .refused (.undecodedAddress addr)
    | some l => .next (busRead8 l s)

/-- RD16 at any address (R230): faulted already, then decode, then alignment (R446). -/
def execRd16 (addr : BitVec 32) (s : State) : Answer :=
  if s.faulted then .next (returnFreeHalf s)
  else
    match decodeAddr addr with
    | none => .refused (.undecodedAddress addr)
    | some l => .next (busRead16 l s)

/-- WR8 at any address (R231). -/
def execWr8 (addr : BitVec 32) (data : Byte) (s : State) : Answer :=
  if s.faulted then .next s
  else
    match decodeAddr addr with
    | none => .refused (.undecodedAddress addr)
    | some l => .next (busWrite8 l data s)

/-- WR16 at any address (R231). -/
def execWr16 (addr : BitVec 32) (data : Half) (s : State) : Answer :=
  if s.faulted then .next s
  else
    match decodeAddr addr with
    | none => .refused (.undecodedAddress addr)
    | some l => .next (busWrite16 l data s)

/-! ## Pseudo-commands of the textual notation (R114) -/

/-- `WR32 addr, v`. -/
def wr32 (addr : BitVec 32) (v : BitVec 32) : List Instr :=
  [wr16Row addr (v.extractLsb' 0 16), wr16Row (addr + 2) (v.extractLsb' 16 16)]

/-- `RD32 addr`; the result is the second value above the first. -/
def rd32 (addr : BitVec 32) : List Instr := [rd16Row addr, rd16Row (addr + 2)]

/-- `ADVN delta, k`. -/
def advN (delta : BitVec 32) (k : Nat) : List Instr := List.replicate k (.adv delta)

/-- `ADVTO c`, where `sched.now` is known. -/
def advTo (c : Nat) (s : State) : Instr := .adv (BitVec.ofNat 32 (c - s.sched.now.toNat))

end Sys2Proof.Machine
end

