-- ==== Sys2Proof/Machine/MemoryRegions.lean ====
section
/-! DEFINITION. Machine/MemoryRegions.lean: the meanings of the rows of pram, vram and oam (R122, R260). -/

namespace Sys2Proof.Machine

/-- RD8 pram (R230, R260). -/
def execRd8Pram (offset : BitVec 10) (s : State) : Answer := .next (busRead8 (.mem .pram offset.toNat) s)

/-- RD16 pram (R230, R260). -/
def execRd16Pram (offset : BitVec 10) (s : State) : Answer := .next (busRead16 (.mem .pram offset.toNat) s)

/-- WR8 pram (R231, R260). -/
def execWr8Pram (offset : BitVec 10) (data : Byte) (s : State) : Answer := .next (busWrite8 (.mem .pram offset.toNat) data s)

/-- WR16 pram (R231, R260). -/
def execWr16Pram (offset : BitVec 10) (data : Half) (s : State) : Answer := .next (busWrite16 (.mem .pram offset.toNat) data s)

/-- RD8 vram_lo (R230, R260). -/
def execRd8VramLo (offset : BitVec 16) (s : State) : Answer := .next (busRead8 (.mem .vram offset.toNat) s)

/-- RD16 vram_lo (R230, R260). -/
def execRd16VramLo (offset : BitVec 16) (s : State) : Answer := .next (busRead16 (.mem .vram offset.toNat) s)

/-- WR8 vram_lo (R231, R260). -/
def execWr8VramLo (offset : BitVec 16) (data : Byte) (s : State) : Answer := .next (busWrite8 (.mem .vram offset.toNat) data s)

/-- WR16 vram_lo (R231, R260). -/
def execWr16VramLo (offset : BitVec 16) (data : Half) (s : State) : Answer := .next (busWrite16 (.mem .vram offset.toNat) data s)

/-- RD8 vram_hi (R230, R260). -/
def execRd8VramHi (offset : BitVec 15) (s : State) : Answer := .next (busRead8 (.mem .vram (0x10000 + offset.toNat)) s)

/-- RD16 vram_hi (R230, R260). -/
def execRd16VramHi (offset : BitVec 15) (s : State) : Answer := .next (busRead16 (.mem .vram (0x10000 + offset.toNat)) s)

/-- WR8 vram_hi (R231, R260). -/
def execWr8VramHi (offset : BitVec 15) (data : Byte) (s : State) : Answer := .next (busWrite8 (.mem .vram (0x10000 + offset.toNat)) data s)

/-- WR16 vram_hi (R231, R260). -/
def execWr16VramHi (offset : BitVec 15) (data : Half) (s : State) : Answer := .next (busWrite16 (.mem .vram (0x10000 + offset.toNat)) data s)

/-- RD8 oam (R230, R260). -/
def execRd8Oam (offset : BitVec 10) (s : State) : Answer := .next (busRead8 (.mem .oam offset.toNat) s)

/-- RD16 oam (R230, R260). -/
def execRd16Oam (offset : BitVec 10) (s : State) : Answer := .next (busRead16 (.mem .oam offset.toNat) s)

/-- WR8 oam (R231, R260). -/
def execWr8Oam (offset : BitVec 10) (data : Byte) (s : State) : Answer := .next (busWrite8 (.mem .oam offset.toNat) data s)

/-- WR16 oam (R231, R260). -/
def execWr16Oam (offset : BitVec 10) (data : Half) (s : State) : Answer := .next (busWrite16 (.mem .oam offset.toNat) data s)

end Sys2Proof.Machine
end

