-- ==== Sys2Proof/Machine/PhaseEvents.lean ====
section
/-! DEFINITION. Machine/PhaseEvents.lean: the meanings of the event tags (R110).
`Dispatch` (R176) runs the handler with the operand `late`; while `fault` is set nothing runs (R441). -/

namespace Sys2Proof.Machine

/-- An event's handler, unless the fault record is set (R441). -/
def runEvent (tag : Phase) (late : BitVec 32) (s : State) : Answer :=
  .next (runOps [dispatchEvent tag late.toInt] s)

/-- E_SCANLINE (R192). -/
def execEScanline (late : BitVec 32) (s : State) : Answer := runEvent .scanline late s

/-- E_HBLANKSEARCH (R193). -/
def execEHblanksearch (late : BitVec 32) (s : State) : Answer := runEvent .hblankSearch late s

/-- E_HBLANK (R194). -/
def execEHblank (late : BitVec 32) (s : State) : Answer := runEvent .hblank late s

/-- E_VBLANKSCANLINE (R195). -/
def execEVblankscanline (late : BitVec 32) (s : State) : Answer := runEvent .vblankScanline late s

/-- E_VBLANKHBLANK (R196). -/
def execEVblankhblank (late : BitVec 32) (s : State) : Answer := runEvent .vblankHblank late s

/-- Tag 5 names no phase: `F_PHASE` (R443). -/
def execEReserved5 (s : State) : Answer := runEvent .code5 0 s

/-- Tag 6 names no phase: `F_PHASE` (R443). -/
def execEReserved6 (s : State) : Answer := runEvent .code6 0 s

/-- Tag 7 names no phase: `F_PHASE` (R443). -/
def execEReserved7 (s : State) : Answer := runEvent .code7 0 s

end Sys2Proof.Machine
end

