-- ==== Sys2Proof/Machine/TimerRegs.lean ====
section
/-! DEFINITION. Machine/TimerRegs.lean: the meanings of the rows of TMnCNT_L and TMnCNT_H. -/

namespace Sys2Proof.Machine

/-- WR8 TM0CNT_L+0 (R270). -/
def execWr8Tm0cntL0 (data : Byte) (s : State) : Answer := .next (busWrite8 (.reg (.tmcntL .n0) .lo) data s)

/-- RD8 TM0CNT_L+0 (R270). -/
def execRd8Tm0cntL0 (s : State) : Answer := .next (busRead8 (.reg (.tmcntL .n0) .lo) s)

/-- WR8 TM0CNT_L+1 (R270). -/
def execWr8Tm0cntL1 (data : Byte) (s : State) : Answer := .next (busWrite8 (.reg (.tmcntL .n0) .hi) data s)

/-- RD8 TM0CNT_L+1 (R270). -/
def execRd8Tm0cntL1 (s : State) : Answer := .next (busRead8 (.reg (.tmcntL .n0) .hi) s)

/-- WR16 TM0CNT_L (R231, R270). -/
def execWr16Tm0cntL (data : Half) (s : State) : Answer := .next (busWrite16 (.reg (.tmcntL .n0) .lo) data s)

/-- RD16 TM0CNT_L (R230, R270). -/
def execRd16Tm0cntL (s : State) : Answer := .next (busRead16 (.reg (.tmcntL .n0) .lo) s)

/-- WR8 TM0CNT_H+0 (R272). -/
def execWr8Tm0cntH0 (data : Byte) (s : State) : Answer := .next (busWrite8 (.reg (.tmcntH .n0) .lo) data s)

/-- RD8 TM0CNT_H+0 (R271). -/
def execRd8Tm0cntH0 (s : State) : Answer := .next (busRead8 (.reg (.tmcntH .n0) .lo) s)

/-- WR8 TM0CNT_H+1 (R273). -/
def execWr8Tm0cntH1 (data : Byte) (s : State) : Answer := .next (busWrite8 (.reg (.tmcntH .n0) .hi) data s)

/-- RD8 TM0CNT_H+1 (R271). -/
def execRd8Tm0cntH1 (s : State) : Answer := .next (busRead8 (.reg (.tmcntH .n0) .hi) s)

/-- WR16 TM0CNT_H (R231, R272, R273). -/
def execWr16Tm0cntH (data : Half) (s : State) : Answer := .next (busWrite16 (.reg (.tmcntH .n0) .lo) data s)

/-- RD16 TM0CNT_H (R230, R271). -/
def execRd16Tm0cntH (s : State) : Answer := .next (busRead16 (.reg (.tmcntH .n0) .lo) s)

/-- WR8 TM1CNT_L+0 (R270). -/
def execWr8Tm1cntL0 (data : Byte) (s : State) : Answer := .next (busWrite8 (.reg (.tmcntL .n1) .lo) data s)

/-- RD8 TM1CNT_L+0 (R270). -/
def execRd8Tm1cntL0 (s : State) : Answer := .next (busRead8 (.reg (.tmcntL .n1) .lo) s)

/-- WR8 TM1CNT_L+1 (R270). -/
def execWr8Tm1cntL1 (data : Byte) (s : State) : Answer := .next (busWrite8 (.reg (.tmcntL .n1) .hi) data s)

/-- RD8 TM1CNT_L+1 (R270). -/
def execRd8Tm1cntL1 (s : State) : Answer := .next (busRead8 (.reg (.tmcntL .n1) .hi) s)

/-- WR16 TM1CNT_L (R231, R270). -/
def execWr16Tm1cntL (data : Half) (s : State) : Answer := .next (busWrite16 (.reg (.tmcntL .n1) .lo) data s)

/-- RD16 TM1CNT_L (R230, R270). -/
def execRd16Tm1cntL (s : State) : Answer := .next (busRead16 (.reg (.tmcntL .n1) .lo) s)

/-- WR8 TM1CNT_H+0 (R272). -/
def execWr8Tm1cntH0 (data : Byte) (s : State) : Answer := .next (busWrite8 (.reg (.tmcntH .n1) .lo) data s)

/-- RD8 TM1CNT_H+0 (R271). -/
def execRd8Tm1cntH0 (s : State) : Answer := .next (busRead8 (.reg (.tmcntH .n1) .lo) s)

/-- WR8 TM1CNT_H+1 (R273). -/
def execWr8Tm1cntH1 (data : Byte) (s : State) : Answer := .next (busWrite8 (.reg (.tmcntH .n1) .hi) data s)

/-- RD8 TM1CNT_H+1 (R271). -/
def execRd8Tm1cntH1 (s : State) : Answer := .next (busRead8 (.reg (.tmcntH .n1) .hi) s)

/-- WR16 TM1CNT_H (R231, R272, R273). -/
def execWr16Tm1cntH (data : Half) (s : State) : Answer := .next (busWrite16 (.reg (.tmcntH .n1) .lo) data s)

/-- RD16 TM1CNT_H (R230, R271). -/
def execRd16Tm1cntH (s : State) : Answer := .next (busRead16 (.reg (.tmcntH .n1) .lo) s)

/-- WR8 TM2CNT_L+0 (R270). -/
def execWr8Tm2cntL0 (data : Byte) (s : State) : Answer := .next (busWrite8 (.reg (.tmcntL .n2) .lo) data s)

/-- RD8 TM2CNT_L+0 (R270). -/
def execRd8Tm2cntL0 (s : State) : Answer := .next (busRead8 (.reg (.tmcntL .n2) .lo) s)

/-- WR8 TM2CNT_L+1 (R270). -/
def execWr8Tm2cntL1 (data : Byte) (s : State) : Answer := .next (busWrite8 (.reg (.tmcntL .n2) .hi) data s)

/-- RD8 TM2CNT_L+1 (R270). -/
def execRd8Tm2cntL1 (s : State) : Answer := .next (busRead8 (.reg (.tmcntL .n2) .hi) s)

/-- WR16 TM2CNT_L (R231, R270). -/
def execWr16Tm2cntL (data : Half) (s : State) : Answer := .next (busWrite16 (.reg (.tmcntL .n2) .lo) data s)

/-- RD16 TM2CNT_L (R230, R270). -/
def execRd16Tm2cntL (s : State) : Answer := .next (busRead16 (.reg (.tmcntL .n2) .lo) s)

/-- WR8 TM2CNT_H+0 (R272). -/
def execWr8Tm2cntH0 (data : Byte) (s : State) : Answer := .next (busWrite8 (.reg (.tmcntH .n2) .lo) data s)

/-- RD8 TM2CNT_H+0 (R271). -/
def execRd8Tm2cntH0 (s : State) : Answer := .next (busRead8 (.reg (.tmcntH .n2) .lo) s)

/-- WR8 TM2CNT_H+1 (R273). -/
def execWr8Tm2cntH1 (data : Byte) (s : State) : Answer := .next (busWrite8 (.reg (.tmcntH .n2) .hi) data s)

/-- RD8 TM2CNT_H+1 (R271). -/
def execRd8Tm2cntH1 (s : State) : Answer := .next (busRead8 (.reg (.tmcntH .n2) .hi) s)

/-- WR16 TM2CNT_H (R231, R272, R273). -/
def execWr16Tm2cntH (data : Half) (s : State) : Answer := .next (busWrite16 (.reg (.tmcntH .n2) .lo) data s)

/-- RD16 TM2CNT_H (R230, R271). -/
def execRd16Tm2cntH (s : State) : Answer := .next (busRead16 (.reg (.tmcntH .n2) .lo) s)

/-- WR8 TM3CNT_L+0 (R270). -/
def execWr8Tm3cntL0 (data : Byte) (s : State) : Answer := .next (busWrite8 (.reg (.tmcntL .n3) .lo) data s)

/-- RD8 TM3CNT_L+0 (R270). -/
def execRd8Tm3cntL0 (s : State) : Answer := .next (busRead8 (.reg (.tmcntL .n3) .lo) s)

/-- WR8 TM3CNT_L+1 (R270). -/
def execWr8Tm3cntL1 (data : Byte) (s : State) : Answer := .next (busWrite8 (.reg (.tmcntL .n3) .hi) data s)

/-- RD8 TM3CNT_L+1 (R270). -/
def execRd8Tm3cntL1 (s : State) : Answer := .next (busRead8 (.reg (.tmcntL .n3) .hi) s)

/-- WR16 TM3CNT_L (R231, R270). -/
def execWr16Tm3cntL (data : Half) (s : State) : Answer := .next (busWrite16 (.reg (.tmcntL .n3) .lo) data s)

/-- RD16 TM3CNT_L (R230, R270). -/
def execRd16Tm3cntL (s : State) : Answer := .next (busRead16 (.reg (.tmcntL .n3) .lo) s)

/-- WR8 TM3CNT_H+0 (R272). -/
def execWr8Tm3cntH0 (data : Byte) (s : State) : Answer := .next (busWrite8 (.reg (.tmcntH .n3) .lo) data s)

/-- RD8 TM3CNT_H+0 (R271). -/
def execRd8Tm3cntH0 (s : State) : Answer := .next (busRead8 (.reg (.tmcntH .n3) .lo) s)

/-- WR8 TM3CNT_H+1 (R273). -/
def execWr8Tm3cntH1 (data : Byte) (s : State) : Answer := .next (busWrite8 (.reg (.tmcntH .n3) .hi) data s)

/-- RD8 TM3CNT_H+1 (R271). -/
def execRd8Tm3cntH1 (s : State) : Answer := .next (busRead8 (.reg (.tmcntH .n3) .hi) s)

/-- WR16 TM3CNT_H (R231, R272, R273). -/
def execWr16Tm3cntH (data : Half) (s : State) : Answer := .next (busWrite16 (.reg (.tmcntH .n3) .lo) data s)

/-- RD16 TM3CNT_H (R230, R271). -/
def execRd16Tm3cntH (s : State) : Answer := .next (busRead16 (.reg (.tmcntH .n3) .lo) s)

end Sys2Proof.Machine
end

