-- ==== Sys2Proof/Machine/Dispatch.lean ====
section
/-! DEFINITION. Machine/Dispatch.lean: one arm per constructor of Instr, each a direct call of its meaning. -/

namespace Sys2Proof.Machine

/-- What an instruction does to a state. -/
def exec (i : Instr) (s : State) : Host.Outcome State Fault Refusal :=
  match i with
  | .adv delta => Sys2Proof.Machine.execAdv delta s
  | .rd8 addr => Sys2Proof.Machine.execRd8 addr s
  | .rd16 addr => Sys2Proof.Machine.execRd16 addr s
  | .wr8 addr data => Sys2Proof.Machine.execWr8 addr data s
  | .wr16 addr data => Sys2Proof.Machine.execWr16 addr data s
  | .wr8Dispcnt0 data => Sys2Proof.Machine.execWr8Dispcnt0 data s
  | .wr8Dispcnt1 data => Sys2Proof.Machine.execWr8Dispcnt1 data s
  | .wr16Dispcnt data => Sys2Proof.Machine.execWr16Dispcnt data s
  | .wr8Dispstat0 data => Sys2Proof.Machine.execWr8Dispstat0 data s
  | .wr8Dispstat1 data => Sys2Proof.Machine.execWr8Dispstat1 data s
  | .wr16Dispstat data => Sys2Proof.Machine.execWr16Dispstat data s
  | .wr8Vcount0 data => Sys2Proof.Machine.execWr8Vcount0 data s
  | .wr8Vcount1 data => Sys2Proof.Machine.execWr8Vcount1 data s
  | .wr16Vcount data => Sys2Proof.Machine.execWr16Vcount data s
  | .wr8Bg0cnt0 data => Sys2Proof.Machine.execWr8Bg0cnt0 data s
  | .wr8Bg0cnt1 data => Sys2Proof.Machine.execWr8Bg0cnt1 data s
  | .wr16Bg0cnt data => Sys2Proof.Machine.execWr16Bg0cnt data s
  | .wr8Bg1cnt0 data => Sys2Proof.Machine.execWr8Bg1cnt0 data s
  | .wr8Bg1cnt1 data => Sys2Proof.Machine.execWr8Bg1cnt1 data s
  | .wr16Bg1cnt data => Sys2Proof.Machine.execWr16Bg1cnt data s
  | .wr8Bg2cnt0 data => Sys2Proof.Machine.execWr8Bg2cnt0 data s
  | .wr8Bg2cnt1 data => Sys2Proof.Machine.execWr8Bg2cnt1 data s
  | .wr16Bg2cnt data => Sys2Proof.Machine.execWr16Bg2cnt data s
  | .wr8Bg3cnt0 data => Sys2Proof.Machine.execWr8Bg3cnt0 data s
  | .wr8Bg3cnt1 data => Sys2Proof.Machine.execWr8Bg3cnt1 data s
  | .wr16Bg3cnt data => Sys2Proof.Machine.execWr16Bg3cnt data s
  | .wr8Bg0hofs0 data => Sys2Proof.Machine.execWr8Bg0hofs0 data s
  | .wr8Bg0hofs1 data => Sys2Proof.Machine.execWr8Bg0hofs1 data s
  | .wr16Bg0hofs data => Sys2Proof.Machine.execWr16Bg0hofs data s
  | .wr8Bg0vofs0 data => Sys2Proof.Machine.execWr8Bg0vofs0 data s
  | .wr8Bg0vofs1 data => Sys2Proof.Machine.execWr8Bg0vofs1 data s
  | .wr16Bg0vofs data => Sys2Proof.Machine.execWr16Bg0vofs data s
  | .wr8Bg1hofs0 data => Sys2Proof.Machine.execWr8Bg1hofs0 data s
  | .wr8Bg1hofs1 data => Sys2Proof.Machine.execWr8Bg1hofs1 data s
  | .wr16Bg1hofs data => Sys2Proof.Machine.execWr16Bg1hofs data s
  | .wr8Bg1vofs0 data => Sys2Proof.Machine.execWr8Bg1vofs0 data s
  | .wr8Bg1vofs1 data => Sys2Proof.Machine.execWr8Bg1vofs1 data s
  | .wr16Bg1vofs data => Sys2Proof.Machine.execWr16Bg1vofs data s
  | .wr8Bg2hofs0 data => Sys2Proof.Machine.execWr8Bg2hofs0 data s
  | .wr8Bg2hofs1 data => Sys2Proof.Machine.execWr8Bg2hofs1 data s
  | .wr16Bg2hofs data => Sys2Proof.Machine.execWr16Bg2hofs data s
  | .wr8Bg2vofs0 data => Sys2Proof.Machine.execWr8Bg2vofs0 data s
  | .wr8Bg2vofs1 data => Sys2Proof.Machine.execWr8Bg2vofs1 data s
  | .wr16Bg2vofs data => Sys2Proof.Machine.execWr16Bg2vofs data s
  | .wr8Bg3hofs0 data => Sys2Proof.Machine.execWr8Bg3hofs0 data s
  | .wr8Bg3hofs1 data => Sys2Proof.Machine.execWr8Bg3hofs1 data s
  | .wr16Bg3hofs data => Sys2Proof.Machine.execWr16Bg3hofs data s
  | .wr8Bg3vofs0 data => Sys2Proof.Machine.execWr8Bg3vofs0 data s
  | .wr8Bg3vofs1 data => Sys2Proof.Machine.execWr8Bg3vofs1 data s
  | .wr16Bg3vofs data => Sys2Proof.Machine.execWr16Bg3vofs data s
  | .wr8Bg2pa0 data => Sys2Proof.Machine.execWr8Bg2pa0 data s
  | .wr8Bg2pa1 data => Sys2Proof.Machine.execWr8Bg2pa1 data s
  | .wr16Bg2pa data => Sys2Proof.Machine.execWr16Bg2pa data s
  | .wr8Bg2pb0 data => Sys2Proof.Machine.execWr8Bg2pb0 data s
  | .wr8Bg2pb1 data => Sys2Proof.Machine.execWr8Bg2pb1 data s
  | .wr16Bg2pb data => Sys2Proof.Machine.execWr16Bg2pb data s
  | .wr8Bg2pc0 data => Sys2Proof.Machine.execWr8Bg2pc0 data s
  | .wr8Bg2pc1 data => Sys2Proof.Machine.execWr8Bg2pc1 data s
  | .wr16Bg2pc data => Sys2Proof.Machine.execWr16Bg2pc data s
  | .wr8Bg2pd0 data => Sys2Proof.Machine.execWr8Bg2pd0 data s
  | .wr8Bg2pd1 data => Sys2Proof.Machine.execWr8Bg2pd1 data s
  | .wr16Bg2pd data => Sys2Proof.Machine.execWr16Bg2pd data s
  | .wr8Bg2x0 data => Sys2Proof.Machine.execWr8Bg2x0 data s
  | .wr8Bg2x1 data => Sys2Proof.Machine.execWr8Bg2x1 data s
  | .wr8Bg2x2 data => Sys2Proof.Machine.execWr8Bg2x2 data s
  | .wr8Bg2x3 data => Sys2Proof.Machine.execWr8Bg2x3 data s
  | .wr16Bg2x0 data => Sys2Proof.Machine.execWr16Bg2x0 data s
  | .wr16Bg2x2 data => Sys2Proof.Machine.execWr16Bg2x2 data s
  | .wr8Bg2y0 data => Sys2Proof.Machine.execWr8Bg2y0 data s
  | .wr8Bg2y1 data => Sys2Proof.Machine.execWr8Bg2y1 data s
  | .wr8Bg2y2 data => Sys2Proof.Machine.execWr8Bg2y2 data s
  | .wr8Bg2y3 data => Sys2Proof.Machine.execWr8Bg2y3 data s
  | .wr16Bg2y0 data => Sys2Proof.Machine.execWr16Bg2y0 data s
  | .wr16Bg2y2 data => Sys2Proof.Machine.execWr16Bg2y2 data s
  | .wr8Bg3pa0 data => Sys2Proof.Machine.execWr8Bg3pa0 data s
  | .wr8Bg3pa1 data => Sys2Proof.Machine.execWr8Bg3pa1 data s
  | .wr16Bg3pa data => Sys2Proof.Machine.execWr16Bg3pa data s
  | .wr8Bg3pb0 data => Sys2Proof.Machine.execWr8Bg3pb0 data s
  | .wr8Bg3pb1 data => Sys2Proof.Machine.execWr8Bg3pb1 data s
  | .wr16Bg3pb data => Sys2Proof.Machine.execWr16Bg3pb data s
  | .wr8Bg3pc0 data => Sys2Proof.Machine.execWr8Bg3pc0 data s
  | .wr8Bg3pc1 data => Sys2Proof.Machine.execWr8Bg3pc1 data s
  | .wr16Bg3pc data => Sys2Proof.Machine.execWr16Bg3pc data s
  | .wr8Bg3pd0 data => Sys2Proof.Machine.execWr8Bg3pd0 data s
  | .wr8Bg3pd1 data => Sys2Proof.Machine.execWr8Bg3pd1 data s
  | .wr16Bg3pd data => Sys2Proof.Machine.execWr16Bg3pd data s
  | .wr8Bg3x0 data => Sys2Proof.Machine.execWr8Bg3x0 data s
  | .wr8Bg3x1 data => Sys2Proof.Machine.execWr8Bg3x1 data s
  | .wr8Bg3x2 data => Sys2Proof.Machine.execWr8Bg3x2 data s
  | .wr8Bg3x3 data => Sys2Proof.Machine.execWr8Bg3x3 data s
  | .wr16Bg3x0 data => Sys2Proof.Machine.execWr16Bg3x0 data s
  | .wr16Bg3x2 data => Sys2Proof.Machine.execWr16Bg3x2 data s
  | .wr8Bg3y0 data => Sys2Proof.Machine.execWr8Bg3y0 data s
  | .wr8Bg3y1 data => Sys2Proof.Machine.execWr8Bg3y1 data s
  | .wr8Bg3y2 data => Sys2Proof.Machine.execWr8Bg3y2 data s
  | .wr8Bg3y3 data => Sys2Proof.Machine.execWr8Bg3y3 data s
  | .wr16Bg3y0 data => Sys2Proof.Machine.execWr16Bg3y0 data s
  | .wr16Bg3y2 data => Sys2Proof.Machine.execWr16Bg3y2 data s
  | .wr8Win0h0 data => Sys2Proof.Machine.execWr8Win0h0 data s
  | .wr8Win0h1 data => Sys2Proof.Machine.execWr8Win0h1 data s
  | .wr16Win0h data => Sys2Proof.Machine.execWr16Win0h data s
  | .wr8Win1h0 data => Sys2Proof.Machine.execWr8Win1h0 data s
  | .wr8Win1h1 data => Sys2Proof.Machine.execWr8Win1h1 data s
  | .wr16Win1h data => Sys2Proof.Machine.execWr16Win1h data s
  | .wr8Win0v0 data => Sys2Proof.Machine.execWr8Win0v0 data s
  | .wr8Win0v1 data => Sys2Proof.Machine.execWr8Win0v1 data s
  | .wr16Win0v data => Sys2Proof.Machine.execWr16Win0v data s
  | .wr8Win1v0 data => Sys2Proof.Machine.execWr8Win1v0 data s
  | .wr8Win1v1 data => Sys2Proof.Machine.execWr8Win1v1 data s
  | .wr16Win1v data => Sys2Proof.Machine.execWr16Win1v data s
  | .wr8Winin0 data => Sys2Proof.Machine.execWr8Winin0 data s
  | .wr8Winin1 data => Sys2Proof.Machine.execWr8Winin1 data s
  | .wr16Winin data => Sys2Proof.Machine.execWr16Winin data s
  | .wr8Winout0 data => Sys2Proof.Machine.execWr8Winout0 data s
  | .wr8Winout1 data => Sys2Proof.Machine.execWr8Winout1 data s
  | .wr16Winout data => Sys2Proof.Machine.execWr16Winout data s
  | .wr8Mosaic0 data => Sys2Proof.Machine.execWr8Mosaic0 data s
  | .wr8Mosaic1 data => Sys2Proof.Machine.execWr8Mosaic1 data s
  | .wr16Mosaic data => Sys2Proof.Machine.execWr16Mosaic data s
  | .wr8Bldcnt0 data => Sys2Proof.Machine.execWr8Bldcnt0 data s
  | .wr8Bldcnt1 data => Sys2Proof.Machine.execWr8Bldcnt1 data s
  | .wr16Bldcnt data => Sys2Proof.Machine.execWr16Bldcnt data s
  | .wr8Bldalpha0 data => Sys2Proof.Machine.execWr8Bldalpha0 data s
  | .wr8Bldalpha1 data => Sys2Proof.Machine.execWr8Bldalpha1 data s
  | .wr16Bldalpha data => Sys2Proof.Machine.execWr16Bldalpha data s
  | .wr8Bldy0 data => Sys2Proof.Machine.execWr8Bldy0 data s
  | .wr8Bldy1 data => Sys2Proof.Machine.execWr8Bldy1 data s
  | .wr16Bldy data => Sys2Proof.Machine.execWr16Bldy data s
  | .wr8Tm0cntL0 data => Sys2Proof.Machine.execWr8Tm0cntL0 data s
  | .wr8Tm0cntL1 data => Sys2Proof.Machine.execWr8Tm0cntL1 data s
  | .wr16Tm0cntL data => Sys2Proof.Machine.execWr16Tm0cntL data s
  | .wr8Tm0cntH0 data => Sys2Proof.Machine.execWr8Tm0cntH0 data s
  | .wr8Tm0cntH1 data => Sys2Proof.Machine.execWr8Tm0cntH1 data s
  | .wr16Tm0cntH data => Sys2Proof.Machine.execWr16Tm0cntH data s
  | .wr8Tm1cntL0 data => Sys2Proof.Machine.execWr8Tm1cntL0 data s
  | .wr8Tm1cntL1 data => Sys2Proof.Machine.execWr8Tm1cntL1 data s
  | .wr16Tm1cntL data => Sys2Proof.Machine.execWr16Tm1cntL data s
  | .wr8Tm1cntH0 data => Sys2Proof.Machine.execWr8Tm1cntH0 data s
  | .wr8Tm1cntH1 data => Sys2Proof.Machine.execWr8Tm1cntH1 data s
  | .wr16Tm1cntH data => Sys2Proof.Machine.execWr16Tm1cntH data s
  | .wr8Tm2cntL0 data => Sys2Proof.Machine.execWr8Tm2cntL0 data s
  | .wr8Tm2cntL1 data => Sys2Proof.Machine.execWr8Tm2cntL1 data s
  | .wr16Tm2cntL data => Sys2Proof.Machine.execWr16Tm2cntL data s
  | .wr8Tm2cntH0 data => Sys2Proof.Machine.execWr8Tm2cntH0 data s
  | .wr8Tm2cntH1 data => Sys2Proof.Machine.execWr8Tm2cntH1 data s
  | .wr16Tm2cntH data => Sys2Proof.Machine.execWr16Tm2cntH data s
  | .wr8Tm3cntL0 data => Sys2Proof.Machine.execWr8Tm3cntL0 data s
  | .wr8Tm3cntL1 data => Sys2Proof.Machine.execWr8Tm3cntL1 data s
  | .wr16Tm3cntL data => Sys2Proof.Machine.execWr16Tm3cntL data s
  | .wr8Tm3cntH0 data => Sys2Proof.Machine.execWr8Tm3cntH0 data s
  | .wr8Tm3cntH1 data => Sys2Proof.Machine.execWr8Tm3cntH1 data s
  | .wr16Tm3cntH data => Sys2Proof.Machine.execWr16Tm3cntH data s
  | .rd8Pram offset => Sys2Proof.Machine.execRd8Pram offset s
  | .rd16Pram offset => Sys2Proof.Machine.execRd16Pram offset s
  | .wr8Pram offset data => Sys2Proof.Machine.execWr8Pram offset data s
  | .wr16Pram offset data => Sys2Proof.Machine.execWr16Pram offset data s
  | .rd8VramLo offset => Sys2Proof.Machine.execRd8VramLo offset s
  | .rd16VramLo offset => Sys2Proof.Machine.execRd16VramLo offset s
  | .wr8VramLo offset data => Sys2Proof.Machine.execWr8VramLo offset data s
  | .wr16VramLo offset data => Sys2Proof.Machine.execWr16VramLo offset data s
  | .rd8VramHi offset => Sys2Proof.Machine.execRd8VramHi offset s
  | .rd16VramHi offset => Sys2Proof.Machine.execRd16VramHi offset s
  | .wr8VramHi offset data => Sys2Proof.Machine.execWr8VramHi offset data s
  | .wr16VramHi offset data => Sys2Proof.Machine.execWr16VramHi offset data s
  | .rd8Oam offset => Sys2Proof.Machine.execRd8Oam offset s
  | .rd16Oam offset => Sys2Proof.Machine.execRd16Oam offset s
  | .wr8Oam offset data => Sys2Proof.Machine.execWr8Oam offset data s
  | .wr16Oam offset data => Sys2Proof.Machine.execWr16Oam offset data s
  | .eScanline late => Sys2Proof.Machine.execEScanline late s
  | .eHblanksearch late => Sys2Proof.Machine.execEHblanksearch late s
  | .eHblank late => Sys2Proof.Machine.execEHblank late s
  | .eVblankscanline late => Sys2Proof.Machine.execEVblankscanline late s
  | .eVblankhblank late => Sys2Proof.Machine.execEVblankhblank late s
  | .rst => Sys2Proof.Machine.execRst s
  | .rd8Dispcnt0 => Sys2Proof.Machine.execRd8Dispcnt0 s
  | .rd8Dispcnt1 => Sys2Proof.Machine.execRd8Dispcnt1 s
  | .rd16Dispcnt => Sys2Proof.Machine.execRd16Dispcnt s
  | .rd8Dispstat0 => Sys2Proof.Machine.execRd8Dispstat0 s
  | .rd8Dispstat1 => Sys2Proof.Machine.execRd8Dispstat1 s
  | .rd16Dispstat => Sys2Proof.Machine.execRd16Dispstat s
  | .rd8Vcount0 => Sys2Proof.Machine.execRd8Vcount0 s
  | .rd8Vcount1 => Sys2Proof.Machine.execRd8Vcount1 s
  | .rd16Vcount => Sys2Proof.Machine.execRd16Vcount s
  | .rd8Bg0cnt0 => Sys2Proof.Machine.execRd8Bg0cnt0 s
  | .rd8Bg0cnt1 => Sys2Proof.Machine.execRd8Bg0cnt1 s
  | .rd16Bg0cnt => Sys2Proof.Machine.execRd16Bg0cnt s
  | .rd8Bg1cnt0 => Sys2Proof.Machine.execRd8Bg1cnt0 s
  | .rd8Bg1cnt1 => Sys2Proof.Machine.execRd8Bg1cnt1 s
  | .rd16Bg1cnt => Sys2Proof.Machine.execRd16Bg1cnt s
  | .rd8Bg2cnt0 => Sys2Proof.Machine.execRd8Bg2cnt0 s
  | .rd8Bg2cnt1 => Sys2Proof.Machine.execRd8Bg2cnt1 s
  | .rd16Bg2cnt => Sys2Proof.Machine.execRd16Bg2cnt s
  | .rd8Bg3cnt0 => Sys2Proof.Machine.execRd8Bg3cnt0 s
  | .rd8Bg3cnt1 => Sys2Proof.Machine.execRd8Bg3cnt1 s
  | .rd16Bg3cnt => Sys2Proof.Machine.execRd16Bg3cnt s
  | .rd8Bg0hofs0 => Sys2Proof.Machine.execRd8Bg0hofs0 s
  | .rd8Bg0hofs1 => Sys2Proof.Machine.execRd8Bg0hofs1 s
  | .rd16Bg0hofs => Sys2Proof.Machine.execRd16Bg0hofs s
  | .rd8Bg0vofs0 => Sys2Proof.Machine.execRd8Bg0vofs0 s
  | .rd8Bg0vofs1 => Sys2Proof.Machine.execRd8Bg0vofs1 s
  | .rd16Bg0vofs => Sys2Proof.Machine.execRd16Bg0vofs s
  | .rd8Bg1hofs0 => Sys2Proof.Machine.execRd8Bg1hofs0 s
  | .rd8Bg1hofs1 => Sys2Proof.Machine.execRd8Bg1hofs1 s
  | .rd16Bg1hofs => Sys2Proof.Machine.execRd16Bg1hofs s
  | .rd8Bg1vofs0 => Sys2Proof.Machine.execRd8Bg1vofs0 s
  | .rd8Bg1vofs1 => Sys2Proof.Machine.execRd8Bg1vofs1 s
  | .rd16Bg1vofs => Sys2Proof.Machine.execRd16Bg1vofs s
  | .rd8Bg2hofs0 => Sys2Proof.Machine.execRd8Bg2hofs0 s
  | .rd8Bg2hofs1 => Sys2Proof.Machine.execRd8Bg2hofs1 s
  | .rd16Bg2hofs => Sys2Proof.Machine.execRd16Bg2hofs s
  | .rd8Bg2vofs0 => Sys2Proof.Machine.execRd8Bg2vofs0 s
  | .rd8Bg2vofs1 => Sys2Proof.Machine.execRd8Bg2vofs1 s
  | .rd16Bg2vofs => Sys2Proof.Machine.execRd16Bg2vofs s
  | .rd8Bg3hofs0 => Sys2Proof.Machine.execRd8Bg3hofs0 s
  | .rd8Bg3hofs1 => Sys2Proof.Machine.execRd8Bg3hofs1 s
  | .rd16Bg3hofs => Sys2Proof.Machine.execRd16Bg3hofs s
  | .rd8Bg3vofs0 => Sys2Proof.Machine.execRd8Bg3vofs0 s
  | .rd8Bg3vofs1 => Sys2Proof.Machine.execRd8Bg3vofs1 s
  | .rd16Bg3vofs => Sys2Proof.Machine.execRd16Bg3vofs s
  | .rd8Bg2pa0 => Sys2Proof.Machine.execRd8Bg2pa0 s
  | .rd8Bg2pa1 => Sys2Proof.Machine.execRd8Bg2pa1 s
  | .rd16Bg2pa => Sys2Proof.Machine.execRd16Bg2pa s
  | .rd8Bg2pb0 => Sys2Proof.Machine.execRd8Bg2pb0 s
  | .rd8Bg2pb1 => Sys2Proof.Machine.execRd8Bg2pb1 s
  | .rd16Bg2pb => Sys2Proof.Machine.execRd16Bg2pb s
  | .rd8Bg2pc0 => Sys2Proof.Machine.execRd8Bg2pc0 s
  | .rd8Bg2pc1 => Sys2Proof.Machine.execRd8Bg2pc1 s
  | .rd16Bg2pc => Sys2Proof.Machine.execRd16Bg2pc s
  | .rd8Bg2pd0 => Sys2Proof.Machine.execRd8Bg2pd0 s
  | .rd8Bg2pd1 => Sys2Proof.Machine.execRd8Bg2pd1 s
  | .rd16Bg2pd => Sys2Proof.Machine.execRd16Bg2pd s
  | .rd8Bg2x0 => Sys2Proof.Machine.execRd8Bg2x0 s
  | .rd8Bg2x1 => Sys2Proof.Machine.execRd8Bg2x1 s
  | .rd8Bg2x2 => Sys2Proof.Machine.execRd8Bg2x2 s
  | .rd8Bg2x3 => Sys2Proof.Machine.execRd8Bg2x3 s
  | .rd16Bg2x0 => Sys2Proof.Machine.execRd16Bg2x0 s
  | .rd16Bg2x2 => Sys2Proof.Machine.execRd16Bg2x2 s
  | .rd8Bg2y0 => Sys2Proof.Machine.execRd8Bg2y0 s
  | .rd8Bg2y1 => Sys2Proof.Machine.execRd8Bg2y1 s
  | .rd8Bg2y2 => Sys2Proof.Machine.execRd8Bg2y2 s
  | .rd8Bg2y3 => Sys2Proof.Machine.execRd8Bg2y3 s
  | .rd16Bg2y0 => Sys2Proof.Machine.execRd16Bg2y0 s
  | .rd16Bg2y2 => Sys2Proof.Machine.execRd16Bg2y2 s
  | .rd8Bg3pa0 => Sys2Proof.Machine.execRd8Bg3pa0 s
  | .rd8Bg3pa1 => Sys2Proof.Machine.execRd8Bg3pa1 s
  | .rd16Bg3pa => Sys2Proof.Machine.execRd16Bg3pa s
  | .rd8Bg3pb0 => Sys2Proof.Machine.execRd8Bg3pb0 s
  | .rd8Bg3pb1 => Sys2Proof.Machine.execRd8Bg3pb1 s
  | .rd16Bg3pb => Sys2Proof.Machine.execRd16Bg3pb s
  | .rd8Bg3pc0 => Sys2Proof.Machine.execRd8Bg3pc0 s
  | .rd8Bg3pc1 => Sys2Proof.Machine.execRd8Bg3pc1 s
  | .rd16Bg3pc => Sys2Proof.Machine.execRd16Bg3pc s
  | .rd8Bg3pd0 => Sys2Proof.Machine.execRd8Bg3pd0 s
  | .rd8Bg3pd1 => Sys2Proof.Machine.execRd8Bg3pd1 s
  | .rd16Bg3pd => Sys2Proof.Machine.execRd16Bg3pd s
  | .rd8Bg3x0 => Sys2Proof.Machine.execRd8Bg3x0 s
  | .rd8Bg3x1 => Sys2Proof.Machine.execRd8Bg3x1 s
  | .rd8Bg3x2 => Sys2Proof.Machine.execRd8Bg3x2 s
  | .rd8Bg3x3 => Sys2Proof.Machine.execRd8Bg3x3 s
  | .rd16Bg3x0 => Sys2Proof.Machine.execRd16Bg3x0 s
  | .rd16Bg3x2 => Sys2Proof.Machine.execRd16Bg3x2 s
  | .rd8Bg3y0 => Sys2Proof.Machine.execRd8Bg3y0 s
  | .rd8Bg3y1 => Sys2Proof.Machine.execRd8Bg3y1 s
  | .rd8Bg3y2 => Sys2Proof.Machine.execRd8Bg3y2 s
  | .rd8Bg3y3 => Sys2Proof.Machine.execRd8Bg3y3 s
  | .rd16Bg3y0 => Sys2Proof.Machine.execRd16Bg3y0 s
  | .rd16Bg3y2 => Sys2Proof.Machine.execRd16Bg3y2 s
  | .rd8Win0h0 => Sys2Proof.Machine.execRd8Win0h0 s
  | .rd8Win0h1 => Sys2Proof.Machine.execRd8Win0h1 s
  | .rd16Win0h => Sys2Proof.Machine.execRd16Win0h s
  | .rd8Win1h0 => Sys2Proof.Machine.execRd8Win1h0 s
  | .rd8Win1h1 => Sys2Proof.Machine.execRd8Win1h1 s
  | .rd16Win1h => Sys2Proof.Machine.execRd16Win1h s
  | .rd8Win0v0 => Sys2Proof.Machine.execRd8Win0v0 s
  | .rd8Win0v1 => Sys2Proof.Machine.execRd8Win0v1 s
  | .rd16Win0v => Sys2Proof.Machine.execRd16Win0v s
  | .rd8Win1v0 => Sys2Proof.Machine.execRd8Win1v0 s
  | .rd8Win1v1 => Sys2Proof.Machine.execRd8Win1v1 s
  | .rd16Win1v => Sys2Proof.Machine.execRd16Win1v s
  | .rd8Winin0 => Sys2Proof.Machine.execRd8Winin0 s
  | .rd8Winin1 => Sys2Proof.Machine.execRd8Winin1 s
  | .rd16Winin => Sys2Proof.Machine.execRd16Winin s
  | .rd8Winout0 => Sys2Proof.Machine.execRd8Winout0 s
  | .rd8Winout1 => Sys2Proof.Machine.execRd8Winout1 s
  | .rd16Winout => Sys2Proof.Machine.execRd16Winout s
  | .rd8Mosaic0 => Sys2Proof.Machine.execRd8Mosaic0 s
  | .rd8Mosaic1 => Sys2Proof.Machine.execRd8Mosaic1 s
  | .rd16Mosaic => Sys2Proof.Machine.execRd16Mosaic s
  | .rd8Bldcnt0 => Sys2Proof.Machine.execRd8Bldcnt0 s
  | .rd8Bldcnt1 => Sys2Proof.Machine.execRd8Bldcnt1 s
  | .rd16Bldcnt => Sys2Proof.Machine.execRd16Bldcnt s
  | .rd8Bldalpha0 => Sys2Proof.Machine.execRd8Bldalpha0 s
  | .rd8Bldalpha1 => Sys2Proof.Machine.execRd8Bldalpha1 s
  | .rd16Bldalpha => Sys2Proof.Machine.execRd16Bldalpha s
  | .rd8Bldy0 => Sys2Proof.Machine.execRd8Bldy0 s
  | .rd8Bldy1 => Sys2Proof.Machine.execRd8Bldy1 s
  | .rd16Bldy => Sys2Proof.Machine.execRd16Bldy s
  | .rd8Tm0cntL0 => Sys2Proof.Machine.execRd8Tm0cntL0 s
  | .rd8Tm0cntL1 => Sys2Proof.Machine.execRd8Tm0cntL1 s
  | .rd16Tm0cntL => Sys2Proof.Machine.execRd16Tm0cntL s
  | .rd8Tm0cntH0 => Sys2Proof.Machine.execRd8Tm0cntH0 s
  | .rd8Tm0cntH1 => Sys2Proof.Machine.execRd8Tm0cntH1 s
  | .rd16Tm0cntH => Sys2Proof.Machine.execRd16Tm0cntH s
  | .rd8Tm1cntL0 => Sys2Proof.Machine.execRd8Tm1cntL0 s
  | .rd8Tm1cntL1 => Sys2Proof.Machine.execRd8Tm1cntL1 s
  | .rd16Tm1cntL => Sys2Proof.Machine.execRd16Tm1cntL s
  | .rd8Tm1cntH0 => Sys2Proof.Machine.execRd8Tm1cntH0 s
  | .rd8Tm1cntH1 => Sys2Proof.Machine.execRd8Tm1cntH1 s
  | .rd16Tm1cntH => Sys2Proof.Machine.execRd16Tm1cntH s
  | .rd8Tm2cntL0 => Sys2Proof.Machine.execRd8Tm2cntL0 s
  | .rd8Tm2cntL1 => Sys2Proof.Machine.execRd8Tm2cntL1 s
  | .rd16Tm2cntL => Sys2Proof.Machine.execRd16Tm2cntL s
  | .rd8Tm2cntH0 => Sys2Proof.Machine.execRd8Tm2cntH0 s
  | .rd8Tm2cntH1 => Sys2Proof.Machine.execRd8Tm2cntH1 s
  | .rd16Tm2cntH => Sys2Proof.Machine.execRd16Tm2cntH s
  | .rd8Tm3cntL0 => Sys2Proof.Machine.execRd8Tm3cntL0 s
  | .rd8Tm3cntL1 => Sys2Proof.Machine.execRd8Tm3cntL1 s
  | .rd16Tm3cntL => Sys2Proof.Machine.execRd16Tm3cntL s
  | .rd8Tm3cntH0 => Sys2Proof.Machine.execRd8Tm3cntH0 s
  | .rd8Tm3cntH1 => Sys2Proof.Machine.execRd8Tm3cntH1 s
  | .rd16Tm3cntH => Sys2Proof.Machine.execRd16Tm3cntH s
  | .eReserved5 => Sys2Proof.Machine.execEReserved5 s
  | .eReserved6 => Sys2Proof.Machine.execEReserved6 s
  | .eReserved7 => Sys2Proof.Machine.execEReserved7 s

end Sys2Proof.Machine
end

