-- ==== Sys2Proof/Machine/Fetch.lean ====
section
/-! DEFINITION. Machine/Fetch.lean: where the next instruction comes from (log entries 1, 2, 3). -/

namespace Sys2Proof.Machine

/-- Take the first command word of the host's stream. -/
def takeCommand (s : State) : State := { s with input := s.input.tail }

/-- The event at the head of the queue where it is due and the block is not faulted. -/
def dueEvent (s : State) : Option Event :=
  if s.faulted then none
  else
    match s.sched.queue with
    | [] => none
    | e :: _ => if e.due s.sched.now then some e else none

/-- What the step fetches, and the state without it: the host's next command word; with no command waiting, a due event
at the head of the queue; otherwise nothing. -/
def fetch (s : State) : Option (Fetched × State) :=
  match s.input with
  | w :: _ => some (.command w, takeCommand s)
  | [] =>
    match dueEvent s with
    | some e => some (.event e.tag.code (BitVec.ofInt 32 (e.late s.sched.now)), popEvent s)
    | none => none

/-- Run what was fetched, or refuse a word that spells no command (R150). -/
def runFetched (f : Fetched) (s : State) : Answer :=
  match decode f with
  | .ok i => exec i s
  | .error e => .refused (.illegalWord e)

/-- Put an opcode-table word where the step fetches next: a command word at the front of the host's stream; an event
tag, due now, in the place of the queue's head, with no command waiting. -/
def placeFetch (s : State) (nbits w : Nat) : State :=
  if nbits ≤ 8 then
    { s with
      input := []
      sched :=
        { s.sched with
          queue := ⟨s.sched.now, s.sched.nextSeq, Phase.ofCode (BitVec.ofNat 3 w)⟩ :: s.sched.queue.tail } }
  else { s with input := BitVec.ofNat 64 w :: s.input }

end Sys2Proof.Machine
end

