-- ==== Sys2Proof/Machine/Step.lean ====
section
/-! DEFINITION. Machine/Step.lean: one step of the block. -/

namespace Sys2Proof.Machine

/-- One step: fetch, decode, execute.
With no command waiting and no event due nothing happens: time moves only by ADV (R21, R516). -/
def step (s : State) : Host.Outcome State Fault Refusal :=
  match fetch s with
  | some (f, s') => runFetched f s'
  | none => .next s

/-- `s` with an opcode-table word where the step fetches its next instruction (log entry 1). -/
def State.withFetchWord (s : State) (nbits w : Nat) : State := placeFetch s nbits w

end Sys2Proof.Machine
end

