-- ==== Sys2Proof/Safety.lean ====
section
/-! DEFINITION. Safety.lean: runs and good ends (R19, R441), the loop of due events, a timer's turn, the renderer's
fetches and the invariants of the block, the terms the statements use. -/

namespace Sys2Proof.Machine

/-- The state after the host's commands have run one after the other, or the first stop (R19). -/
def runCommands : List Instr → State → Answer
  | [], s => .next s
  | i :: rest, s =>
    match exec i s with
    | .next s' => runCommands rest s'
    | .fault r => .fault r
    | .refused r => .refused r

/-- A good end: the run did not stop, and the fault record is not set (R19, R441). -/
def goodEnd (a : Answer) : Bool :=
  match a with
  | .next s => !s.faulted
  | .fault _ => false
  | .refused _ => false

/-- No pending event is due (R174): the head of the queue fires later than now. -/
def NothingDue (s : State) : Prop :=
  ∀ e rest, s.sched.queue = e :: rest → s.sched.now.toNat < e.fireCycle.toNat

/-- `t` is where the due events lead from `s` (R174): the head of the queue, where it is due, is taken out and its handler run
with its lateness, again and again, until none is due or a fault is recorded. -/
inductive FiresDue : State → State → Prop
  | ended (s : State) (h : s.fault ≠ none ∨ NothingDue s) : FiresDue s s
  | fires (s t : State) (e : Event) (rest : List Event) (unfaulted : s.fault = none)
      (head : s.sched.queue = e :: rest) (due : e.fireCycle.toNat ≤ s.sched.now.toNat)
      (goesOn : FiresDue
        (dispatchEvent e.tag ((s.sched.now.toNat : Int) - e.fireCycle.toNat)
          { s with sched := { s.sched with queue := rest } }) t) : FiresDue s t

/-! ## What a timer step does to one timer -/

/-- One timer's turn in a step: its registers after it and how often it wrapped, from the timer and whether the timer below
has overflowed (R411 to R415); timer 0 has none below it (R418). -/
def Timer.turn (t : Timer) (below : Bool) (delta : Nat) : Timer × Nat :=
  if !t.enable then (t, 0)
  else if !t.cascade then t.free delta
  else if !below then (t, 0)
  else if t.counter = 0xFFFF then ({ t with counter := t.reload }, 1)
  else ({ t with counter := t.counter + 1 }, 0)

/-- The outputs of timer `k` in a step in which it wrapped `n` times (R417, R452). -/
def wrapRecords (s : State) (k : Ix4) (n : Nat) : List OutRecord :=
  if n = 0 then []
  else (if (s.tm.get k).interrupt then [⟨.raise (.timer k), s.sched.now, none⟩] else []) ++
    [⟨.timerOverflow k n, s.sched.now, none⟩]

/-! ## What the renderer fetches, as plain reads of the memories -/

/-- A byte and a halfword as a background layer fetches them: 0 from 0x10000 on (R331). -/
def bgByte (s : State) (off : Nat) : Byte := if off < 0x10000 then s.vram.read off else 0
def bgHalf (s : State) (off : Nat) : Half := if off < 0x10000 then s.vram.read (off + 1) ++ s.vram.read off else 0

/-- The colour at an offset of the palette memory (R155). -/
def paletteColor (s : State) (off : Nat) : Color := (s.pram.read (off + 1) ++ s.pram.read off).extractLsb' 0 15

/-- The nibble that holds pixel column `k` (R157): high where `k` is odd. -/
def pixelNibble (b : Byte) (k : Nat) : Nat := if k % 2 = 1 then b.toNat / 16 else b.toNat % 16

/-- A pixel of palette index `idx` whose colour stands at an offset: index 0 is transparent (R155). -/
def indexed (s : State) (idx off : Nat) : Slot := if idx = 0 then none else some (paletteColor s off)

/-! ## Invariants -/

/-- The memories and the frame are in canonical form and inside their bounds (R44 to R47). -/
def StorageInv (s : State) : Prop :=
  s.pram.wf = true ∧ s.pram.within (Config.spaceSize .pram) = true ∧
  s.oam.wf = true ∧ s.oam.within (Config.spaceSize .oam) = true ∧
  s.vram.wf = true ∧ s.vram.within (Config.spaceSize .vram) = true ∧
  s.frame.wf = true

/-- A timer between commands: no overflow flag (R53), a sub-tick count of 0 to 0x3FF (R54, the widest mask). -/
def Timer.settled (t : Timer) : Prop :=
  t.overflow = false ∧ 0 ≤ t.cycles.toInt ∧ t.cycles.toInt ≤ 0x3FF

/-- All four timers between commands. -/
def TimersInv (s : State) : Prop :=
  s.tm.e0.settled ∧ s.tm.e1.settled ∧ s.tm.e2.settled ∧ s.tm.e3.settled

/-- The lines on which a phase occurs (R190): 0 to 159 for the three visible phases, 160 to 227 for the other two. -/
def phaseLine (p : Phase) (line : Nat) : Bool :=
  match p with
  | .scanline => decide (line < 160)
  | .hblankSearch => decide (line < 160)
  | .hblank => decide (line < 160)
  | .vblankScanline => decide (160 ≤ line) && decide (line < 228)
  | .vblankHblank => decide (160 ≤ line) && decide (line < 228)
  | .code5 => false
  | .code6 => false
  | .code7 => false

/-- The cycle of the frame at which the phase of a line ends (R179, R206). -/
def phaseEnd (p : Phase) (line : Nat) : Nat :=
  match p with
  | .scanline => 1232 * line + 960
  | .hblankSearch => 1232 * line + 1006
  | .hblank => 1232 * (line + 1)
  | .vblankScanline => 1232 * line + 1006
  | .vblankHblank => 1232 * (line + 1)
  | .code5 => 0
  | .code6 => 0
  | .code7 => 0

/-- The one pending event (R24): its tag is the phase, it is not due, and it fires where the timeline of the frame puts it
(R206, cycles counted modulo the frame). -/
def PendingEvent (s : State) (e : Event) : Prop :=
  s.sched.queue = [e] ∧ e.tag = s.ppu.phase ∧ s.sched.now.toNat < e.fireCycle.toNat ∧
  e.fireCycle.toNat % Config.frameCycles = phaseEnd s.ppu.phase s.ppu.vcount.toNat % Config.frameCycles

/-- The sequencer between commands (R24, R25, R206, R442): a legal line and, while no fault is recorded, a legal phase with
its one event pending; of the four faults only `F_NEGATIVE_DELAY` and `F_MISALIGNED` are ever recorded. -/
def SequencerInv (s : State) : Prop :=
  s.ppu.vcount.toNat ≤ 227 ∧
  (s.fault = none → phaseLine s.ppu.phase s.ppu.vcount.toNat = true ∧ ∃ e, PendingEvent s e) ∧
  (s.fault = none ∨ s.fault = some .negativeDelay ∨ s.fault = some .misaligned)

/-- Everything the host's bus writes may set, and ADV may not (R74: no internal writer), is the same in two states. -/
def SameBusWritten (s t : State) : Prop :=
  t.dispcnt = s.dispcnt ∧
  (t.dispstat.vblankIrqEnable = s.dispstat.vblankIrqEnable ∧ t.dispstat.hblankIrqEnable = s.dispstat.hblankIrqEnable ∧
    t.dispstat.vcountIrqEnable = s.dispstat.vcountIrqEnable ∧ t.dispstat.vcountSetting = s.dispstat.vcountSetting) ∧
  t.bgcnt = s.bgcnt ∧ t.bghofs = s.bghofs ∧ t.bgvofs = s.bgvofs ∧
  t.winh = s.winh ∧ t.winv = s.winv ∧ t.winin = s.winin ∧ t.winout = s.winout ∧
  (t.mosaic.bg.h = s.mosaic.bg.h ∧ t.mosaic.bg.v = s.mosaic.bg.v ∧
    t.mosaic.obj.h = s.mosaic.obj.h ∧ t.mosaic.obj.v = s.mosaic.obj.v) ∧
  t.bldcnt = s.bldcnt ∧ t.eva = s.eva ∧ t.evb = s.evb ∧ t.evy = s.evy ∧
  t.bgpa = s.bgpa ∧ t.bgpb = s.bgpb ∧ t.bgpc = s.bgpc ∧ t.bgpd = s.bgpd ∧
  (∀ i, (t.bgx.get i).initial = (s.bgx.get i).initial ∧ (t.bgy.get i).initial = (s.bgy.get i).initial) ∧
  t.pram = s.pram ∧ t.oam = s.oam ∧ t.vram = s.vram ∧
  (∀ k, (t.tm.get k).reload = (s.tm.get k).reload ∧ (t.tm.get k).frequency = (s.tm.get k).frequency ∧
    (t.tm.get k).cascade = (s.tm.get k).cascade ∧ (t.tm.get k).interrupt = (s.tm.get k).interrupt ∧
    (t.tm.get k).enable = (s.tm.get k).enable)

/-- Only the phase events, RST and ADV may change these (R74, R275): every one is the same in two states. -/
def SameInternal (s t : State) : Prop :=
  t.sched = s.sched ∧ t.ppu = s.ppu ∧
  t.dispstat.hblankFlag = s.dispstat.hblankFlag ∧ t.dispstat.vblankFlag = s.dispstat.vblankFlag ∧
  t.mosaic.bg.counterY = s.mosaic.bg.counterY ∧ t.mosaic.obj.counterY = s.mosaic.obj.counterY ∧
  t.frame = s.frame ∧ (∀ k, (t.tm.get k).overflow = (s.tm.get k).overflow)

/-- The commands of the bus (R112): RD8, RD16, WR8, WR16 in all their rows. -/
def isBusCommand (i : Instr) : Bool :=
  match encode i with
  | .command w => decide (2 ≤ (wordOp w).toNat) && decide ((wordOp w).toNat ≤ 5)
  | .event _ _ => false

end Sys2Proof.Machine
end

