-- ==== Sys2Proof/WellFormed.lean ====
section
/-! DEFINITION. WellFormed.lean: which instruction terms a word spells. -/

namespace Sys2Proof

open Sys2Proof.Machine

/-- No byte row matches the address, so only the generic row spells the command (R111). -/
def noByteRow (addr : BitVec 32) : Bool := (decodeAddr addr).isNone

/-- No halfword row matches the address: it is undecoded, or an odd address of a register (R83, R111). -/
def noHalfRow (addr : BitVec 32) : Bool :=
  match decodeAddr addr with
  | none => true
  | some (.reg _ .hi) => true
  | some (.reg _ .lo) => false
  | some (.mem _ _) => false

/-- `cycles_late` is a signed 32-bit number that is not negative (R6, R174). -/
def lateOk (late : BitVec 32) : Bool := !late.msb

/-- A well-formed instruction: `delta` in its range (R113), a generic bus row only where no more exact row matches,
a lateness that is not negative.
Every other constructor is well-formed with every operand. -/
def WellFormed (i : Instr) : Bool :=
  match i with
  | .adv delta => decide (delta.toNat ≤ Config.maxDelta)
  | .rd8 addr => noByteRow addr
  | .rd16 addr => noHalfRow addr
  | .wr8 addr _ => noByteRow addr
  | .wr16 addr _ => noHalfRow addr
  | .eScanline late => lateOk late
  | .eHblanksearch late => lateOk late
  | .eHblank late => lateOk late
  | .eVblankscanline late => lateOk late
  | .eVblankhblank late => lateOk late
  | _ => true

end Sys2Proof
end

