-- ==== Sys2Proof/Certificates/Slice0/Obligations.lean ====
section
/-! DEFINITION. Certificates/Slice0/Obligations.lean: the statements for the provers, one definition each, and the few
terms they share. `late` of an event, and every delay, is read as a signed number (R6, R172). -/

namespace Sys2Proof.Machine.Claims

open Sys2Proof Sys2Proof.Machine

/-- `new` is `old` with byte `k` replaced by `v`; bits past the field's width are discarded (R151). -/
def ReplacesByte {w : Nat} (old : BitVec w) (k : Nat) (v : Byte) (new : BitVec w) : Prop :=
  ∀ j, j < w → new.getLsbD j = if 8 * k ≤ j ∧ j < 8 * k + 8 then v.getLsbD (j - 8 * k) else old.getLsbD j

/-- The registers whose reads return an unspecified value (R242). -/
def writeOnly (r : Reg) : Bool :=
  match r with
  | .bghofs _ | .bgvofs _ | .bgpa _ | .bgpb _ | .bgpc _ | .bgpd _ => true
  | .bgxLow _ | .bgxHigh _ | .bgyLow _ | .bgyHigh _ => true
  | .winh _ | .winv _ | .mosaic | .bldy => true
  | .dispcnt | .dispstat | .vcount | .bgcnt _ | .winin | .winout => false
  | .bldcnt | .bldalpha | .tmcntL _ | .tmcntH _ => false

/-- The state in which a read command leaves the value `v` with the host. -/
def gives (s : State) (v : ReadValue) : State := { s with readout := some v }

/-- The four rows of a register read at once: byte 0 is `lo`, byte 1 is `hi`, the halfword is both. -/
def Reads (r : Reg) (s : State) (lo hi : Byte) : Prop :=
  exec (rd8At r .lo) s = .next (gives s (.byte lo)) ∧
  exec (rd8At r .hi) s = .next (gives s (.byte hi)) ∧
  exec (rd16At r) s = .next (gives s (.half (hi ++ lo)))

/-- The handler of a phase event: `P` is the phase it enters (R191). -/
def armed (s : State) (late : BitVec 32) (p : Phase) (dur : Nat) : Sched where
  now := s.sched.now
  queue := insertEvent ⟨s.sched.now - late.signExtend 64 + BitVec.ofNat 64 dur, s.sched.nextSeq, p⟩ s.sched.queue
  nextSeq := s.sched.nextSeq + 1

/-- The output record a phase event appends: stamped with `sched.now` and with the event's own `fire_cycle` (R16). -/
def record (s : State) (late : BitVec 32) (what : Output) : OutRecord :=
  ⟨what, s.sched.now, some (s.sched.now - late.signExtend 64)⟩

/-- The one record of an output that an enable bit lets through (R451). -/
def recordIf (enabled : Bool) (s : State) (late : BitVec 32) (what : Output) : List OutRecord :=
  if enabled then [record s late what] else []

/-- A handler whose event came too late: `Next` has written the phase, `Add` has raised `F_NEGATIVE_DELAY`,
and nothing after it has happened (R440, R446). -/
def tooLate (s : State) (p : Phase) : State :=
  { s with ppu := { s.ppu with phase := p }, fault := some .negativeDelay }

/-- Range of a prescaler field: its shift (R52). -/
def shiftOf (f : BitVec 2) : Nat := [0, 6, 8, 10].getD f.toNat 0

/-- The reset values of R70, but for `frame`, which R70 leaves unspecified (R47, log entry 7), and `out`. -/
def HasResetValues (s : State) : Prop :=
  s.sched.now = 0 ∧ s.sched.queue = [⟨960, 0, .scanline⟩] ∧ s.sched.nextSeq = 1 ∧
  s.ppu.phase = .scanline ∧ s.ppu.vcount = 0 ∧
  s.dispcnt = ⟨0, false, false, false, false, false, 0⟩ ∧
  s.dispstat = ⟨false, false, false, false, false, false, 0⟩ ∧
  (∀ n, s.bgcnt.get n = ⟨0, 0, false, false, 0, false, 0⟩ ∧ s.bghofs.get n = 0 ∧ s.bgvofs.get n = 0) ∧
  (∀ i, s.bgpa.get i = 0x0100 ∧ s.bgpd.get i = 0x0100 ∧ s.bgpb.get i = 0 ∧ s.bgpc.get i = 0 ∧
    s.bgx.get i = ⟨0, 0⟩ ∧ s.bgy.get i = ⟨0, 0⟩ ∧ s.winh.get i = ⟨0, 0⟩ ∧ s.winv.get i = ⟨0, 0⟩ ∧
    s.winin.get i = 0 ∧ s.winout.get i = 0 ∧ s.bldcnt.targets.get i = 0) ∧
  s.mosaic = ⟨⟨0, 0, 0⟩, ⟨0, 0, 0⟩⟩ ∧
  s.mosaic.bg.sizeX = 1 ∧ s.mosaic.bg.sizeY = 1 ∧ s.mosaic.obj.sizeX = 1 ∧ s.mosaic.obj.sizeY = 1 ∧
  s.bldcnt.sfx = 0 ∧ s.eva = 0 ∧ s.evb = 0 ∧ s.evy = 0 ∧
  (∀ sp off, (s.mem sp).read off = 0) ∧
  (∀ k, s.tm.get k = ⟨0, 0, 0, 0, false, false, false, false⟩) ∧
  s.fault = none

end Sys2Proof.Machine.Claims

open Sys2Proof Sys2Proof.Machine Sys2Proof.Machine.Claims

/-! ## Commands, words, steps -/

/-- A step takes the host's next command word, or an event that is due, and runs what it decodes to.
The command stream and the fetch of due events are the model's own (log entries 1, 2, 3). -/
def Obligations.StepRunsTheDecodedInstruction : Prop :=
  (∀ (s : State) (w : Word64) (rest : List Word64) (i : Instr),
    s.input = w :: rest → decode (.command w) = .ok i → step s = exec i { s with input := rest }) ∧
  (∀ (s : State) (w : Word64) (rest : List Word64) (why : DecodeError),
    s.input = w :: rest → decode (.command w) = .error why → step s = .refused (.illegalWord why)) ∧
  (∀ (s : State) (e : Event) (rest : List Event),
    s.input = [] → s.fault = none → s.sched.queue = e :: rest → e.fireCycle.toNat ≤ s.sched.now.toNat →
    step s = exec (eventOf e.tag (BitVec.ofInt 32 (s.sched.now.toNat - e.fireCycle.toNat)))
      { s with sched := { s.sched with queue := rest } }) ∧
  (∀ s : State, s.input = [] → s.fault ≠ none → step s = .next s) ∧
  (∀ s : State, s.input = [] →
    (∀ e rest, s.sched.queue = e :: rest → s.sched.now.toNat < e.fireCycle.toNat) → step s = .next s) ∧
  (∀ (s : State) (w : Nat), w < 2 ^ 64 → (s.withFetchWord 64 w).input = BitVec.ofNat 64 w :: s.input)

/-- Words written out from R110 to R112, R120 and R122 decode to their commands: one of each opcode, register rows, memory
rows, event tags. -/
def Obligations.WordsFromTheSpecDecode : Prop :=
  decode (.command 0x00000000000003C0#64) = .ok (.adv 960) ∧
  decode (.command 0x1000000000000000#64) = .ok .rst ∧
  decode (.command 0x2040000060000000#64) = .ok .rd8Vcount0 ∧
  decode (.command 0x3040000040000000#64) = .ok .rd16Dispstat ∧
  decode (.command 0x40400000000000FF#64) = .ok (.wr8Dispcnt0 0xFF) ∧
  decode (.command 0x5040000000000403#64) = .ok (.wr16Dispcnt 0x0403) ∧
  decode (.command 0x5040000280000FFF#64) = .ok (.wr16Bg2x0 0x0FFF) ∧
  decode (.command 0x5040000480003F21#64) = .ok (.wr16Winin 0x3F21) ∧
  decode (.command 0x40400010200000C1#64) = .ok (.wr8Tm0cntH0 0xC1) ∧
  decode (.command 0x5050000000007FFF#64) = .ok (.wr16Pram 0 0x7FFF) ∧
  decode (.command 0x2060100000000000#64) = .ok (.rd8VramHi 0) ∧
  decode (.command 0x2070003FF0000000#64) = .ok (.rd8Oam 0x3FF) ∧
  decode (.event 4#3 7) = .ok (.eVblankhblank 7) ∧
  decode (.event 5#3 0) = .ok .eReserved5

/-- Decoding the words of a well-formed instruction gives it back, with every operand at every value (R110 to R122). -/
def Obligations.DecodingAnEncodingGivesTheInstruction : Prop :=
  ∀ i : Instr, WellFormed i = true → decode (encode i) = .ok i

/-- Every command word has one meaning: what it decodes to is well-formed and encodes to that word. -/
def Obligations.EncodingADecodedWordGivesTheWord : Prop :=
  ∀ (w : Word64) (i : Instr), decode (.command w) = .ok i → WellFormed i = true ∧ encode i = .command w

/-- Which words the decoder refuses (R150, but for the addresses, which `AddressMap` states): opcodes 0x6 to 0xF, must-be-zero
bits that are not zero, a delta over 0x7FFFFC00; it refuses no other. -/
def Obligations.RefusedWords : Prop :=
  ∀ w : Word64,
    let op := (w.extractLsb' 60 4).toNat
    (∃ why, decode (.command w) = .error why) ↔
      6 ≤ op ∨
      (op = 0 ∧ (w.extractLsb' 32 28 ≠ 0 ∨ 0x7FFFFC00 < (w.extractLsb' 0 32).toNat)) ∨
      (op = 1 ∧ w.extractLsb' 0 60 ≠ 0) ∨
      ((op = 2 ∨ op = 3) ∧ w.extractLsb' 0 28 ≠ 0) ∨
      (op = 4 ∧ w.extractLsb' 8 20 ≠ 0) ∨
      (op = 5 ∧ w.extractLsb' 16 12 ≠ 0)

/-- The address map (R81): which addresses the block decodes, to which offset, and that every bus command to any other is
refused with the fault record as it was. -/
def Obligations.AddressMap : Prop :=
  ∀ addr : BitVec 32,
    let a := addr.toNat
    (0x05000000 ≤ a ∧ a ≤ 0x050003FF → decodeAddr addr = some (.mem .pram (a - 0x05000000))) ∧
    (0x06000000 ≤ a ∧ a ≤ 0x06017FFF → decodeAddr addr = some (.mem .vram (a - 0x06000000))) ∧
    (0x07000000 ≤ a ∧ a ≤ 0x070003FF → decodeAddr addr = some (.mem .oam (a - 0x07000000))) ∧
    ((0x04000000 ≤ a ∧ a ≤ 0x04000055 ∧ a / 2 ≠ 0x04000002 / 2 ∧ a / 2 ≠ 0x0400004E / 2) ∨
        (0x04000100 ≤ a ∧ a ≤ 0x0400010F) →
      ∃ r lane, decodeAddr addr = some (.reg r lane) ∧ (Loc.reg r lane).addr = a) ∧
    (¬(0x05000000 ≤ a ∧ a ≤ 0x050003FF) → ¬(0x06000000 ≤ a ∧ a ≤ 0x06017FFF) →
      ¬(0x07000000 ≤ a ∧ a ≤ 0x070003FF) →
      ¬(0x04000000 ≤ a ∧ a ≤ 0x04000055 ∧ a / 2 ≠ 0x04000002 / 2 ∧ a / 2 ≠ 0x0400004E / 2) →
      ¬(0x04000100 ≤ a ∧ a ≤ 0x0400010F) →
      decodeAddr addr = none ∧
      ∀ s : State, s.fault = none →
        exec (rd8Row addr) s = .refused (.undecodedAddress addr) ∧
        exec (rd16Row addr) s = .refused (.undecodedAddress addr) ∧
        (∀ v, exec (wr8Row addr v) s = .refused (.undecodedAddress addr)) ∧
        (∀ v, exec (wr16Row addr v) s = .refused (.undecodedAddress addr)))

/-- The four generic rows RD8, RD16, WR8, WR16 (R111, R112): at any decoded address they do what the row of that address
does, and complete. That the decoder gives the most exact row is the model's choice (log entry 10). -/
def Obligations.GenericCommandIsTheRowOfItsAddress : Prop :=
  ∀ (addr : BitVec 32) (s : State), decodeAddr addr ≠ none →
    (∃ t, exec (.rd8 addr) s = .next t ∧ exec (rd8Row addr) s = .next t) ∧
    (∃ t, exec (.rd16 addr) s = .next t ∧ exec (rd16Row addr) s = .next t) ∧
    (∀ v, ∃ t, exec (.wr8 addr v) s = .next t ∧ exec (wr8Row addr v) s = .next t) ∧
    (∀ v, ∃ t, exec (.wr16 addr v) s = .next t ∧ exec (wr16Row addr v) s = .next t)

/-! ## Reset, faults, time -/

/-- The state at power-on and after RST, value by value (R70): the same values, `out` empty at power-on and unchanged by RST.
The spec leaves `frame` unspecified and so does this statement. -/
def Obligations.ResetValues : Prop :=
  HasResetValues State.reset ∧ State.reset.out = [] ∧
  ∀ s : State, ∃ t, exec .rst s = .next t ∧ HasResetValues t ∧ t.out = s.out

/-- RST (R480): every piece of the spec's state at its reset value, whatever it was and whether or not a fault was recorded;
`out` is left as it is; twice is the same as once.
The model's own four fields stay (log entries 1, 4, 5, 6). -/
def Obligations.RstRestoresTheResetState : Prop :=
  ∀ s : State, ∃ t,
    exec .rst s = .next t ∧
    t = { State.reset with out := s.out, input := s.input, readout := s.readout, draws := s.draws, params := s.params } ∧
    exec .rst t = .next t

/-- While the fault record is set every command and event but RST does nothing; a read returns an unspecified value; a run
that ends so has not ended well (R441). -/
def Obligations.AFaultedBlockDoesNothing : Prop :=
  (∀ (i : Instr) (s : State), s.fault ≠ none → WellFormed i = true → i ≠ .rst →
    ∃ r n, exec i s = .next { s with readout := r, draws := n }) ∧
  (∀ (s : State) (r : Reg) (lane : Lane), s.fault ≠ none →
    exec (rd8At r lane) s =
      .next { s with readout := some (.byte (Config.freeByte s.draws)), draws := s.draws + 1 }) ∧
  (∀ (s : State) (r : Reg), s.fault ≠ none →
    exec (rd16At r) s =
      .next { s with
        readout := some (.half (Config.freeByte (s.draws + 1) ++ Config.freeByte s.draws))
        draws := s.draws + 2 }) ∧
  (∀ (i : Instr) (s : State), s.fault ≠ none → isBusCommand i = false → WellFormed i = true → i ≠ .rst →
    exec i s = .next s) ∧
  (∀ s : State, ∃ t, exec .rst s = .next t ∧ t.fault = none) ∧
  (∀ s : State, goodEnd (.next s) = true ↔ s.fault = none)

/-- Only ADV and RST move `sched.now`; ADV is refused where it would carry it past 2^64 - 1 (R21). -/
def Obligations.OnlyAdvAndRstMoveTime : Prop :=
  State.reset.sched.now = 0 ∧
  (∀ (i : Instr) (s t : State), exec i s = .next t →
    t.sched.now = s.sched.now ∨ (∃ d, i = .adv d) ∨ i = .rst) ∧
  (∀ (s : State) (d : BitVec 32), d.toNat ≤ 0x7FFFFC00 → s.fault = none →
    2 ^ 64 ≤ s.sched.now.toNat + d.toNat → exec (.adv d) s = .refused .cycleCounterOverflow)

/-- ADV (R175): the cycle counter moves by `delta`; the timers step once by `delta`, before any event; then the due events fire
(R174, `FiresDue`), each as exec of its tag runs it, until none is due or a fault is recorded; nothing the bus owns is
written (R74), and neither are the memories. -/
def Obligations.AdvRunsTimersThenDueEvents : Prop :=
  (∀ (s : State) (d : BitVec 32), d.toNat ≤ 0x7FFFFC00 → s.fault = none → s.sched.now.toNat + d.toNat < 2 ^ 64 →
    let stepped := timerRun d.toNat { s with sched := { s.sched with now := s.sched.now + d.setWidth 64 } }
    ∃ t, exec (.adv d) s = .next t ∧
      FiresDue stepped t ∧
      (NothingDue stepped → t = stepped) ∧
      t.sched.now = s.sched.now + d.setWidth 64 ∧
      t.tm = (timerRun d.toNat s).tm ∧
      (∃ later, t.out = stepped.out ++ later) ∧
      (t.fault ≠ none ∨ NothingDue t) ∧
      SameBusWritten s t ∧
      t.input = s.input ∧ t.readout = s.readout ∧ t.params = s.params) ∧
  (∀ (s : State) (tag : Phase) (late : BitVec 32), s.fault = none →
    exec (eventOf tag late) s = .next (dispatchEvent tag late.toInt s))

/-- `Add` (R172, R173): a negative delay is the fault; otherwise the new entry stands after exactly the entries that come
before it, and the insertion counter moves. Past 2^64 - 1 both numbers wrap (log entry 8). -/
def Obligations.AddInsertsInOrder : Prop :=
  ∀ (s : State) (delay : Int) (tag : Phase),
    let earlier := fun x y : Event =>
      x.fireCycle.toNat < y.fireCycle.toNat ∨ (x.fireCycle = y.fireCycle ∧ x.seq.toNat < y.seq.toNat)
    let entry : Event := ⟨s.sched.now + BitVec.ofInt 64 delay, s.sched.nextSeq, tag⟩
    (delay < 0 → s.fault = none → schedAdd delay tag s = { s with fault := some .negativeDelay }) ∧
    (0 ≤ delay → ∃ before after,
      s.sched.queue = before ++ after ∧
      schedAdd delay tag s = { s with sched := ⟨s.sched.now, before ++ entry :: after, s.sched.nextSeq + 1⟩ } ∧
      (∀ x ∈ before, earlier x entry) ∧
      (s.sched.queue.Pairwise earlier → ∀ x ∈ after, ¬ earlier x entry))

/-! ## Invariants -/

/-- The three invariants hold after reset. -/
def Obligations.ResetMeetsTheInvariants : Prop :=
  StorageInv State.reset ∧ TimersInv State.reset ∧ SequencerInv State.reset

/-- Every instruction keeps the memories and the frame in canonical form and inside their bounds (R44 to R47, R87). -/
def Obligations.StorageStaysCanonical : Prop :=
  ∀ (i : Instr) (s t : State), StorageInv s → exec i s = .next t → StorageInv t

/-- Every instruction leaves all four overflow flags clear and every sub-tick count in 0 to 0x3FF (R53, R54). -/
def Obligations.TimersStaySettled : Prop :=
  ∀ (i : Instr) (s t : State), TimersInv s → exec i s = .next t → TimersInv t

/-- HEADLINE. Every step keeps the sequencer on the timeline of the frame (R24, R25, R206): a legal line and phase, one
pending event whose tag is the phase and which fires at the cycle the timeline names, nothing due; and the faults
`F_PHASE` and `F_INDEX` are never recorded (R442). -/
def Obligations.SequencerStaysOnTheTimeline : Prop :=
  ∀ s t : State, SequencerInv s → step s = .next t → SequencerInv t

/-- HEADLINE. A host that keeps `delta` at 47 or less never faults the block (R500), away from the end of the 64-bit cycle
counter (log entry 8). -/
def Obligations.SmallAdvancesNeverFault : Prop :=
  ∀ (s : State) (d : BitVec 32), SequencerInv s → s.fault = none → d.toNat ≤ 47 →
    s.sched.now.toNat + d.toNat + 1006 < 2 ^ 64 → ∃ t, exec (.adv d) s = .next t ∧ t.fault = none

/-- No instruction changes the model's own command stream or the OPEN parameters (log entries 1, 4), and the output trace only
grows (R66). -/
def Obligations.TraceGrowsAndParametersStay : Prop :=
  ∀ (i : Instr) (s t : State), exec i s = .next t →
    t.params = s.params ∧ t.input = s.input ∧ ∃ new, t.out = s.out ++ new

/-- Timers and display do not see each other (R423): with other timers ADV does the same to everything but the timers and the
trace, and with another display it does the same to the timers. -/
def Obligations.TimersAndDisplayAreIndependent : Prop :=
  (∀ (s t : State) (d : BitVec 32) (timers : Four Timer), exec (.adv d) s = .next t →
    ∃ u, exec (.adv d) { s with tm := timers } = .next u ∧ u = { t with tm := u.tm, out := u.out }) ∧
  (∀ (s s' t t' : State) (d : BitVec 32), s.fault = none → s'.fault = none → s.tm = s'.tm →
    exec (.adv d) s = .next t → exec (.adv d) s' = .next t' → t.tm = t'.tm)

/-! ## The phase events -/

/-- E_SCANLINE (R192): re-arm HBlankSearch, raise HBlank if enabled, then render. Later than 46 cycles it faults. -/
def Obligations.ScanlineEnd : Prop :=
  ∀ (s : State) (late : BitVec 32), s.fault = none →
    (late.toInt ≤ 46 → exec (.eScanline late) s = .next (renderScanline
      { s with
        ppu := ⟨.hblankSearch, s.ppu.vcount⟩
        sched := armed s late .hblankSearch 46
        out := s.out ++ recordIf s.dispstat.hblankIrqEnable s late (.raise .hblank) })) ∧
    (46 < late.toInt → exec (.eScanline late) s = .next (tooLate s .hblankSearch))

/-- E_HBLANKSEARCH (R193): re-arm HBlank, request the HBlank DMA and from line 2 on the video DMA, set the HBlank flag. -/
def Obligations.HblankSearchEnd : Prop :=
  ∀ (s : State) (late : BitVec 32), s.fault = none →
    (late.toInt ≤ 226 → exec (.eHblanksearch late) s = .next
      { s with
        ppu := ⟨.hblank, s.ppu.vcount⟩
        sched := armed s late .hblank 226
        out := s.out ++ [record s late (.request .hblank)] ++
          recordIf (decide (2 ≤ s.ppu.vcount.toNat)) s late (.request .video)
        dispstat := { s.dispstat with hblankFlag := true } }) ∧
    (226 < late.toInt → exec (.eHblanksearch late) s = .next (tooLate s .hblank))

/-- E_HBLANK (R194): the flag, the line counter and the match first; then either the entry to line 160 (Draw, re-arm, DMA,
flag, interrupt, mosaic counters) or the mosaic step and the re-arm; the accumulators last. -/
def Obligations.HblankEnd : Prop :=
  ∀ (s : State) (late : BitVec 32), s.fault = none →
    let fire := s.sched.now - late.signExtend 64
    let s1 := evalVCount (some fire)
      { s with
        dispstat := { s.dispstat with hblankFlag := false }
        ppu := ⟨s.ppu.phase, s.ppu.vcount + 1⟩ }
    (s.ppu.vcount = 159 → late.toInt ≤ 1006 → exec (.eHblank late) s = .next (updateAffine
      { s1 with
        ppu := ⟨.vblankScanline, 160⟩
        sched := armed s late .vblankScanline 1006
        out := s1.out ++ [record s late (.draw s.frame), record s late (.request .vblank)] ++
          recordIf s.dispstat.vblankIrqEnable s late (.raise .vblank)
        dispstat := { s1.dispstat with vblankFlag := true }
        mosaic := ⟨⟨s.mosaic.bg.h, s.mosaic.bg.v, 0⟩, ⟨s.mosaic.obj.h, s.mosaic.obj.v, 0⟩⟩ })) ∧
    (s.ppu.vcount = 159 → 1006 < late.toInt → exec (.eHblank late) s = .next
      (tooLate { s1 with out := s1.out ++ [record s late (.draw s.frame)] } .vblankScanline)) ∧
    (s.ppu.vcount ≠ 159 → late.toInt ≤ 960 → exec (.eHblank late) s = .next (updateAffine
      { advanceMosaic s1 with
        ppu := ⟨.scanline, s.ppu.vcount + 1⟩
        sched := armed s late .scanline 960 })) ∧
    (s.ppu.vcount ≠ 159 → 960 < late.toInt →
      exec (.eHblank late) s = .next (tooLate (advanceMosaic s1) .scanline))

/-- E_VBLANKSCANLINE (R195): re-arm VBlankHBlank, set the HBlank flag, the video DMA request on lines below 162 and its stop
on line 162, raise HBlank if enabled. -/
def Obligations.VblankScanlineEnd : Prop :=
  ∀ (s : State) (late : BitVec 32), s.fault = none →
    (late.toInt ≤ 226 → exec (.eVblankscanline late) s = .next
      { s with
        ppu := ⟨.vblankHblank, s.ppu.vcount⟩
        sched := armed s late .vblankHblank 226
        dispstat := { s.dispstat with hblankFlag := true }
        out := s.out ++ recordIf (decide (s.ppu.vcount.toNat < 162)) s late (.request .video) ++
          recordIf (decide (s.ppu.vcount = 162)) s late .stopVideoTransfer ++
          recordIf s.dispstat.hblankIrqEnable s late (.raise .hblank) }) ∧
    (226 < late.toInt → exec (.eVblankscanline late) s = .next (tooLate s .vblankHblank))

/-- E_VBLANKHBLANK (R196): clear the HBlank flag; on line 227 the line counter returns to 0 and Scanline is armed, on any
other line VBlankScanline is armed, the VBlank flag cleared on line 226 only, the line counter incremented; the match
last. -/
def Obligations.VblankHblankEnd : Prop :=
  ∀ (s : State) (late : BitVec 32), s.fault = none →
    let fire := s.sched.now - late.signExtend 64
    let d := { s.dispstat with hblankFlag := false }
    (s.ppu.vcount = 227 → late.toInt ≤ 960 → exec (.eVblankhblank late) s = .next (evalVCount (some fire)
      { s with dispstat := d, ppu := ⟨.scanline, 0⟩, sched := armed s late .scanline 960 })) ∧
    (s.ppu.vcount = 227 → 960 < late.toInt → exec (.eVblankhblank late) s = .next
      (tooLate { s with dispstat := d, ppu := ⟨s.ppu.phase, 0⟩ } .scanline)) ∧
    (s.ppu.vcount ≠ 227 → late.toInt ≤ 1006 → exec (.eVblankhblank late) s = .next (evalVCount (some fire)
      { s with
        dispstat := { d with vblankFlag := s.dispstat.vblankFlag && decide (s.ppu.vcount ≠ 226) }
        ppu := ⟨.vblankScanline, s.ppu.vcount + 1⟩
        sched := armed s late .vblankScanline 1006 })) ∧
    (s.ppu.vcount ≠ 227 → 1006 < late.toInt →
      exec (.eVblankhblank late) s = .next (tooLate { s with dispstat := d } .vblankScanline))

/-- The three unrecognised event tags record `F_PHASE` and do nothing else (R443). -/
def Obligations.UnrecognisedTagsFault : Prop :=
  ∀ s : State, s.fault = none →
    exec .eReserved5 s = .next { s with fault := some .phase } ∧
    exec .eReserved6 s = .next { s with fault := some .phase } ∧
    exec .eReserved7 s = .next { s with fault := some .phase }

/-- `EvalVCount` (R198): the flag becomes the comparison; an interrupt is raised only when the flag was clear, the line
matches and the enable is set. -/
def Obligations.VcountMatchIsEdgeTriggered : Prop :=
  ∀ (s : State) (fire : Option Word64),
    (s.ppu.vcount = s.dispstat.vcountSetting → s.dispstat.vcountFlag = false → s.dispstat.vcountIrqEnable = true →
      evalVCount fire s = { s with
        dispstat := { s.dispstat with vcountFlag := true }
        out := s.out ++ [⟨.raise .vcount, s.sched.now, fire⟩] }) ∧
    (s.ppu.vcount = s.dispstat.vcountSetting → s.dispstat.vcountFlag = true ∨ s.dispstat.vcountIrqEnable = false →
      evalVCount fire s = { s with dispstat := { s.dispstat with vcountFlag := true } }) ∧
    (s.ppu.vcount ≠ s.dispstat.vcountSetting →
      evalVCount fire s = { s with dispstat := { s.dispstat with vcountFlag := false } })

/-- `AdvanceMosaic` (R200): each vertical counter counts lines modulo its size, wrapping too where the size was lowered below
the count; the sizes stay.
`UpdateAffine` and `ReloadAffine` (R202, R204): at line 160 every accumulator takes its sign-extended initial value; on any
other line it moves by its coefficient, or under mosaic by the vertical size times it where the counter is zero and not
at all where it is not; modulo 2^32. -/
def Obligations.MosaicCountersAndAccumulators : Prop :=
  (∀ s : State,
    ∃ b o : BitVec 4,
      advanceMosaic s =
        { s with mosaic := ⟨⟨s.mosaic.bg.h, s.mosaic.bg.v, b⟩, ⟨s.mosaic.obj.h, s.mosaic.obj.v, o⟩⟩ } ∧
      b.toNat = (if s.mosaic.bg.counterY.toNat + 1 ≥ s.mosaic.bg.v.toNat + 1 then 0
        else s.mosaic.bg.counterY.toNat + 1) ∧
      o.toNat = (if s.mosaic.obj.counterY.toNat + 1 ≥ s.mosaic.obj.v.toNat + 1 then 0
        else s.mosaic.obj.counterY.toNat + 1)) ∧
  (∀ (s : State) (i : Ix2),
    let mosaicOn := (s.bgcnt.get (affineLayer i)).mosaicEnable
    let times : Int :=
      if mosaicOn then (if s.mosaic.bg.counterY = 0 then (s.mosaic.bg.v.toNat : Int) + 1 else 0) else 1
    let t := updateAffine s
    t = { s with bgx := t.bgx, bgy := t.bgy } ∧
    (t.bgx.get i).initial = (s.bgx.get i).initial ∧ (t.bgy.get i).initial = (s.bgy.get i).initial ∧
    (s.ppu.vcount = 160 →
      (t.bgx.get i).current = BitVec.ofInt 32 (s.bgx.get i).initial.toInt ∧
      (t.bgy.get i).current = BitVec.ofInt 32 (s.bgy.get i).initial.toInt) ∧
    (s.ppu.vcount ≠ 160 →
      (t.bgx.get i).current = BitVec.ofInt 32 ((s.bgx.get i).current.toInt + times * (s.bgpb.get i).toInt) ∧
      (t.bgy.get i).current = BitVec.ofInt 32 ((s.bgy.get i).current.toInt + times * (s.bgpd.get i).toInt)))

/-! ## Register reads and writes -/

/-- DISPCNT (R232 to R234): reads give the fields; a write of byte 0 sets mode and flags and, where the mode changes to 1 or 2,
reloads all four accumulators; a write of byte 1 sets the enables. -/
def Obligations.DisplayControlReadsAndWrites : Prop :=
  (∀ s : State, s.fault = none → ∃ lo hi : Byte,
    Reads .dispcnt s lo hi ∧
    lo.extractLsb' 0 3 = s.dispcnt.mode ∧ lo.getLsbD 3 = s.dispcnt.cgbMode ∧ lo.getLsbD 4 = s.dispcnt.frame ∧
    lo.getLsbD 5 = s.dispcnt.hblankOamAccess ∧ lo.getLsbD 6 = s.dispcnt.oamMapping1d ∧
    lo.getLsbD 7 = s.dispcnt.forcedBlank ∧ hi = s.dispcnt.enable) ∧
  (∀ (s : State) (v : Byte), s.fault = none →
    let mode := v.extractLsb' 0 3
    let reload := fun p : RefPoint =>
      if mode ≠ s.dispcnt.mode ∧ (mode = 1 ∨ mode = 2) then ⟨p.initial, p.initial.signExtend 32⟩ else p
    exec (.wr8Dispcnt0 v) s = .next
      { s with
        dispcnt := ⟨mode, v.getLsbD 3, v.getLsbD 4, v.getLsbD 5, v.getLsbD 6, v.getLsbD 7, s.dispcnt.enable⟩
        bgx := ⟨reload s.bgx.e0, reload s.bgx.e1⟩
        bgy := ⟨reload s.bgy.e0, reload s.bgy.e1⟩ } ∧
    exec (.wr8Dispcnt1 v) s = .next { s with dispcnt := { s.dispcnt with enable := v } })

/-- DISPSTAT (R235 to R237): reads; writes set the three enables and the line setting, never a flag; where
VCOUNT_EVAL_ON_WRITE is true the match is evaluated once after the write. -/
def Obligations.DisplayStatusReadsAndWrites : Prop :=
  ∀ s : State, s.fault = none →
    let after := fun t : State => if s.params.vcountEvalOnWrite then evalVCount none t else t
    (∃ lo hi : Byte, Reads .dispstat s lo hi ∧
      lo.getLsbD 0 = s.dispstat.vblankFlag ∧ lo.getLsbD 1 = s.dispstat.hblankFlag ∧
      lo.getLsbD 2 = s.dispstat.vcountFlag ∧ lo.getLsbD 3 = s.dispstat.vblankIrqEnable ∧
      lo.getLsbD 4 = s.dispstat.hblankIrqEnable ∧ lo.getLsbD 5 = s.dispstat.vcountIrqEnable ∧
      lo.getLsbD 6 = false ∧ lo.getLsbD 7 = false ∧ hi = s.dispstat.vcountSetting) ∧
    (∀ v : Byte, exec (.wr8Dispstat0 v) s = .next (after
      { s with
        dispstat := { s.dispstat with
          vblankIrqEnable := v.getLsbD 3, hblankIrqEnable := v.getLsbD 4, vcountIrqEnable := v.getLsbD 5 } })) ∧
    (∀ v : Byte, exec (.wr8Dispstat1 v) s = .next (after
      { s with dispstat := { s.dispstat with vcountSetting := v } })) ∧
    (∀ v : Half, exec (.wr16Dispstat v) s = .next (after
      { s with
        dispstat := { s.dispstat with
          vblankIrqEnable := v.getLsbD 3, hblankIrqEnable := v.getLsbD 4, vcountIrqEnable := v.getLsbD 5
          vcountSetting := v.extractLsb' 8 8 } }))

/-- VCOUNT (R238): reads give the line and zero; writes are ignored. -/
def Obligations.LineCounterReadsAndIgnoresWrites : Prop :=
  ∀ s : State, s.fault = none →
    Reads .vcount s s.ppu.vcount 0 ∧
    (∀ v, exec (.wr8Vcount0 v) s = .next s) ∧ (∀ v, exec (.wr8Vcount1 v) s = .next s) ∧
    (∀ v, exec (.wr16Vcount v) s = .next s)

/-- BGnCNT (R239, R240), all four layers. -/
def Obligations.BackgroundControlReadsAndWrites : Prop :=
  ∀ (s : State) (n : Ix4), s.fault = none →
    let c := s.bgcnt.get n
    (∃ lo hi : Byte, Reads (.bgcnt n) s lo hi ∧
      lo.extractLsb' 0 2 = c.priority ∧ lo.extractLsb' 2 2 = c.tileBlock ∧ lo.extractLsb' 4 2 = 0 ∧
      lo.getLsbD 6 = c.mosaicEnable ∧ lo.getLsbD 7 = c.fullPalette ∧
      hi.extractLsb' 0 5 = c.mapBlock ∧ hi.getLsbD 5 = c.wraparound ∧ hi.extractLsb' 6 2 = c.size) ∧
    (∀ v : Byte, exec (wr8At (.bgcnt n) .lo v) s = .next
      { s with bgcnt := s.bgcnt.set n { c with
        priority := v.extractLsb' 0 2, tileBlock := v.extractLsb' 2 2
        mosaicEnable := v.getLsbD 6, fullPalette := v.getLsbD 7 } }) ∧
    (∀ v : Byte, exec (wr8At (.bgcnt n) .hi v) s = .next
      { s with bgcnt := s.bgcnt.set n { c with
        mapBlock := v.extractLsb' 0 5, wraparound := v.getLsbD 5, size := v.extractLsb' 6 2 } })

/-- BGnHOFS, BGnVOFS writes (R241): bits 7:0 and bit 8 of a 9-bit offset.
BG2PA to BG3PD writes (R243): one byte of a 16-bit coefficient; the accumulators do not move. -/
def Obligations.ScrollAndCoefficientWrites : Prop :=
  (∀ (s : State) (n : Ix4) (lane : Lane) (v : Byte), s.fault = none →
    (∃ x, exec (wr8At (.bghofs n) lane v) s = .next { s with bghofs := s.bghofs.set n x } ∧
      ReplacesByte (s.bghofs.get n) lane.toNat v x) ∧
    (∃ x, exec (wr8At (.bgvofs n) lane v) s = .next { s with bgvofs := s.bgvofs.set n x } ∧
      ReplacesByte (s.bgvofs.get n) lane.toNat v x)) ∧
  (∀ (s : State) (i : Ix2) (lane : Lane) (v : Byte), s.fault = none →
    (∃ x, exec (wr8At (.bgpa i) lane v) s = .next { s with bgpa := s.bgpa.set i x } ∧
      ReplacesByte (s.bgpa.get i) lane.toNat v x) ∧
    (∃ x, exec (wr8At (.bgpb i) lane v) s = .next { s with bgpb := s.bgpb.set i x } ∧
      ReplacesByte (s.bgpb.get i) lane.toNat v x) ∧
    (∃ x, exec (wr8At (.bgpc i) lane v) s = .next { s with bgpc := s.bgpc.set i x } ∧
      ReplacesByte (s.bgpc.get i) lane.toNat v x) ∧
    (∃ x, exec (wr8At (.bgpd i) lane v) s = .next { s with bgpd := s.bgpd.set i x } ∧
      ReplacesByte (s.bgpd.get i) lane.toNat v x))

/-- BG2X, BG2Y, BG3X, BG3Y writes (R244): byte `k` of the 28-bit initial value, byte 3 its low 4 bits only; the running
accumulator stays. -/
def Obligations.ReferencePointWrites : Prop :=
  ∀ (s : State) (i : Ix2) (lane : Lane) (v : Byte), s.fault = none →
    (∃ r, exec (wr8At (.bgxLow i) lane v) s = .next
        { s with bgx := s.bgx.set i ⟨r, (s.bgx.get i).current⟩ } ∧
      ReplacesByte (s.bgx.get i).initial lane.toNat v r) ∧
    (∃ r, exec (wr8At (.bgxHigh i) lane v) s = .next
        { s with bgx := s.bgx.set i ⟨r, (s.bgx.get i).current⟩ } ∧
      ReplacesByte (s.bgx.get i).initial (2 + lane.toNat) v r) ∧
    (∃ r, exec (wr8At (.bgyLow i) lane v) s = .next
        { s with bgy := s.bgy.set i ⟨r, (s.bgy.get i).current⟩ } ∧
      ReplacesByte (s.bgy.get i).initial lane.toNat v r) ∧
    (∃ r, exec (wr8At (.bgyHigh i) lane v) s = .next
        { s with bgy := s.bgy.set i ⟨r, (s.bgy.get i).current⟩ } ∧
      ReplacesByte (s.bgy.get i).initial (2 + lane.toNat) v r)

/-- WIN0H, WIN1H, WIN0V, WIN1V writes (R245): byte 0 sets `max`, byte 1 sets `min`.
MOSAIC writes (R247): byte 0 the background sizes, byte 1 the object sizes; no counter moves. -/
def Obligations.WindowRangeAndMosaicWrites : Prop :=
  (∀ (s : State) (w : Ix2) (v : Byte), s.fault = none →
    exec (wr8At (.winh w) .lo v) s = .next { s with winh := s.winh.set w ⟨(s.winh.get w).min, v⟩ } ∧
    exec (wr8At (.winh w) .hi v) s = .next { s with winh := s.winh.set w ⟨v, (s.winh.get w).max⟩ } ∧
    exec (wr8At (.winv w) .lo v) s = .next { s with winv := s.winv.set w ⟨(s.winv.get w).min, v⟩ } ∧
    exec (wr8At (.winv w) .hi v) s = .next { s with winv := s.winv.set w ⟨v, (s.winv.get w).max⟩ }) ∧
  (∀ (s : State) (v : Byte), s.fault = none →
    exec (.wr8Mosaic0 v) s = .next
      { s with mosaic := ⟨⟨v.extractLsb' 0 4, v.extractLsb' 4 4, s.mosaic.bg.counterY⟩, s.mosaic.obj⟩ } ∧
    exec (.wr8Mosaic1 v) s = .next
      { s with mosaic := ⟨s.mosaic.bg, ⟨v.extractLsb' 0 4, v.extractLsb' 4 4, s.mosaic.obj.counterY⟩⟩ })

/-- WININ and WINOUT (R246): six mask bits in each byte, read back with bits 7:6 zero. -/
def Obligations.WindowMaskReadsAndWrites : Prop :=
  ∀ (s : State) (v : Byte), s.fault = none →
    (∃ lo hi : Byte, Reads .winin s lo hi ∧ lo = (s.winin.e0).setWidth 8 ∧ hi = (s.winin.e1).setWidth 8) ∧
    (∃ lo hi : Byte, Reads .winout s lo hi ∧ lo = (s.winout.e0).setWidth 8 ∧ hi = (s.winout.e1).setWidth 8) ∧
    exec (.wr8Winin0 v) s = .next { s with winin := ⟨v.setWidth 6, s.winin.e1⟩ } ∧
    exec (.wr8Winin1 v) s = .next { s with winin := ⟨s.winin.e0, v.setWidth 6⟩ } ∧
    exec (.wr8Winout0 v) s = .next { s with winout := ⟨v.setWidth 6, s.winout.e1⟩ } ∧
    exec (.wr8Winout1 v) s = .next { s with winout := ⟨s.winout.e0, v.setWidth 6⟩ }

/-- BLDCNT (R248): masks and effect. BLDALPHA and BLDY (R249, R250): the stored 5-bit factors, unclamped; the upper byte of
BLDY is discarded. -/
def Obligations.BlendRegisterReadsAndWrites : Prop :=
  (∀ (s : State) (v : Byte), s.fault = none →
    (∃ lo hi : Byte, Reads .bldcnt s lo hi ∧
      lo.extractLsb' 0 6 = s.bldcnt.targets.e0 ∧ lo.extractLsb' 6 2 = s.bldcnt.sfx ∧
      hi.extractLsb' 0 6 = s.bldcnt.targets.e1 ∧ hi.extractLsb' 6 2 = 0) ∧
    exec (.wr8Bldcnt0 v) s = .next
      { s with bldcnt := ⟨⟨v.extractLsb' 0 6, s.bldcnt.targets.e1⟩, v.extractLsb' 6 2⟩ } ∧
    exec (.wr8Bldcnt1 v) s = .next
      { s with bldcnt := ⟨⟨s.bldcnt.targets.e0, v.extractLsb' 0 6⟩, s.bldcnt.sfx⟩ }) ∧
  (∀ (s : State) (v : Byte), s.fault = none →
    Reads .bldalpha s (s.eva.setWidth 8) (s.evb.setWidth 8) ∧
    exec (.wr8Bldalpha0 v) s = .next { s with eva := v.setWidth 5 } ∧
    exec (.wr8Bldalpha1 v) s = .next { s with evb := v.setWidth 5 } ∧
    exec (.wr8Bldy0 v) s = .next { s with evy := v.setWidth 5 } ∧
    exec (.wr8Bldy1 v) s = .next s)

/-- Reads of write-only registers (R242): each byte is a new draw of an unspecified value, and nothing of the block changes.
The counter of draws is the model's own (log entry 5); the statement holds for every value of it. -/
def Obligations.WriteOnlyReadsAreUnspecified : Prop :=
  (∀ (s : State) (r : Reg), s.fault = none → writeOnly r = true →
    (∀ lane, exec (rd8At r lane) s = .next
      { s with readout := some (.byte (Config.freeByte s.draws)), draws := s.draws + 1 }) ∧
    exec (rd16At r) s = .next
      { s with
        readout := some (.half (Config.freeByte (s.draws + 1) ++ Config.freeByte s.draws))
        draws := s.draws + 2 }) ∧
  decodeAddr 0x04000002 = none ∧ decodeAddr 0x04000003 = none ∧
  decodeAddr 0x0400004E = none ∧ decodeAddr 0x0400004F = none

/-- TMnCNT_L (R270): reads give the counter; writes reach the reload value, byte by byte. -/
def Obligations.TimerCountReadsAndReloadWrites : Prop :=
  ∀ (s : State) (n : Ix4), s.fault = none →
    (∃ lo hi : Byte, Reads (.tmcntL n) s lo hi ∧ hi ++ lo = (s.tm.get n).counter) ∧
    (∀ (lane : Lane) (v : Byte), ∃ r,
      exec (wr8At (.tmcntL n) lane v) s = .next { s with tm := s.tm.set n { s.tm.get n with reload := r } } ∧
      ReplacesByte (s.tm.get n).reload lane.toNat v r)

/-- TMnCNT_H (R271 to R273): reads; the control byte, whose 0 to 1 transition of enable reloads the counter and, where
TIMER_ENABLE_CLEARS_SUBTICK is true, clears the sub-tick count; the upper byte is discarded. -/
def Obligations.TimerControlReadsAndWrites : Prop :=
  ∀ (s : State) (n : Ix4) (v : Byte), s.fault = none →
    let t := s.tm.get n
    let starts := t.enable = false ∧ v.getLsbD 7 = true
    (∃ lo : Byte, Reads (.tmcntH n) s lo 0 ∧
      lo.extractLsb' 0 2 = t.frequency ∧ lo.getLsbD 2 = t.cascade ∧ lo.extractLsb' 3 3 = 0 ∧
      lo.getLsbD 6 = t.interrupt ∧ lo.getLsbD 7 = t.enable) ∧
    exec (wr8At (.tmcntH n) .lo v) s = .next
      { s with tm := s.tm.set n { t with
        frequency := v.extractLsb' 0 2
        cascade := v.getLsbD 2
        interrupt := v.getLsbD 6
        enable := v.getLsbD 7
        counter := if starts then t.reload else t.counter
        cycles := if starts ∧ s.params.timerEnableClearsSubtick = true then 0 else t.cycles } } ∧
    exec (wr8At (.tmcntH n) .hi v) s = .next s

/-- The halfword rows of every register (R86, R230, R231): a read is its two bytes, low byte in bits 7:0; a write is the low
byte's write and then the high byte's.
DISPSTAT with VCOUNT_EVAL_ON_WRITE true is the one exception (R237: evaluated once, after both bytes). -/
def Obligations.HalfwordRowsAreTwoByteRows : Prop :=
  (∀ (s : State) (r : Reg), s.fault = none → ∃ (lo hi : Byte) (t u v : State),
    exec (rd8At r .lo) s = .next t ∧ t.readout = some (.byte lo) ∧
    exec (rd8At r .hi) t = .next u ∧ u.readout = some (.byte hi) ∧
    exec (rd16At r) s = .next v ∧ v = { u with readout := some (.half (hi ++ lo)) }) ∧
  (∀ (s : State) (r : Reg) (v : Half), s.fault = none → r ≠ .dispstat ∨ s.params.vcountEvalOnWrite = false →
    ∃ t u, exec (wr8At r .lo (v.extractLsb' 0 8)) s = .next t ∧ exec (wr8At r .hi (v.extractLsb' 8 8)) t = .next u ∧
      exec (wr16At r v) s = .next u)

/-- The memory rows (R260, R82, R85): a byte read gives the byte, a halfword read the two bytes little-endian; a write stores
exactly its bytes and every other byte of the region reads as before; nothing else changes.
The region is in canonical form, as every reachable state's is (`StorageStaysCanonical`). -/
def Obligations.MemoryReadsAndWrites : Prop :=
  ∀ (s : State) (sp : Space) (off : Nat), s.fault = none → off < Config.spaceSize sp → (s.mem sp).wf = true →
    exec (rd8Mem sp off) s = .next (gives s (.byte ((s.mem sp).read off))) ∧
    (∀ v, ∃ m : Memory, exec (wr8Mem sp off v) s = .next (s.setMem sp m) ∧
      ∀ a, m.read a = if a = off then v else (s.mem sp).read a) ∧
    (off % 2 = 0 →
      exec (rd16Mem sp off) s = .next (gives s (.half ((s.mem sp).read (off + 1) ++ (s.mem sp).read off))) ∧
      ∀ v, ∃ m : Memory, exec (wr16Mem sp off v) s = .next (s.setMem sp m) ∧
        ∀ a, m.read a =
          if a = off then v.extractLsb' 0 8 else if a = off + 1 then v.extractLsb' 8 8 else (s.mem sp).read a)

/-- Alignment (R83, R446): a byte access at any decoded address and a halfword access at an even one raise nothing; a halfword
access at an odd one records `F_MISALIGNED`, writes nothing, and a read gives an unspecified value (log entry 9). -/
def Obligations.HalfwordAccessesMustBeEven : Prop :=
  ∀ (addr : BitVec 32) (s : State), s.fault = none → decodeAddr addr ≠ none →
    (∃ t, exec (rd8Row addr) s = .next t ∧ t.fault = none) ∧
    (∀ v, ∃ t, exec (wr8Row addr v) s = .next t ∧ t.fault = none) ∧
    (addr.getLsbD 0 = false →
      (∃ t, exec (rd16Row addr) s = .next t ∧ t.fault = none) ∧
      ∀ v, ∃ t, exec (wr16Row addr v) s = .next t ∧ t.fault = none) ∧
    (addr.getLsbD 0 = true →
      exec (rd16Row addr) s = .next
        { s with
          fault := some .misaligned
          readout := some (.half (Config.freeByte (s.draws + 1) ++ Config.freeByte s.draws))
          draws := s.draws + 2 } ∧
      ∀ v, exec (wr16Row addr v) s = .next { s with fault := some .misaligned })

/-- What no bus command changes (R275), for every one of the bus rows. -/
def Obligations.BusCommandsLeaveTheInternalStateAlone : Prop :=
  ∀ (i : Instr) (s t : State), isBusCommand i = true → WellFormed i = true → exec i s = .next t →
    SameInternal s t ∧
    (∀ k, (t.tm.get k).cycles = (s.tm.get k).cycles ∨ s.params.timerEnableClearsSubtick = true) ∧
    (∀ k, (t.tm.get k).counter = (s.tm.get k).counter ∨
      (∃ v, i = wr8At (.tmcntH k) .lo v) ∨ ∃ v, i = wr16At (.tmcntH k) v) ∧
    (∀ j, ((t.bgx.get j).current = (s.bgx.get j).current ∧ (t.bgy.get j).current = (s.bgy.get j).current) ∨
      (∃ v, i = .wr8Dispcnt0 v) ∨ ∃ v, i = .wr16Dispcnt v) ∧
    ((t.out = s.out ∧ t.dispstat.vcountFlag = s.dispstat.vcountFlag) ∨
      (s.params.vcountEvalOnWrite = true ∧
        ((∃ v, i = .wr8Dispstat0 v) ∨ (∃ v, i = .wr8Dispstat1 v) ∨ ∃ v, i = .wr16Dispstat v) ∧
        (t.out = s.out ∨ t.out = s.out ++ [⟨.raise .vcount, s.sched.now, none⟩])))

/-! ## Timers -/

/-- `StepFree` (R413): prescale, count, wrap as often as the increments ask, keep the sub-tick rest; one interrupt if enabled
and one overflow record per step that wrapped (R417, R452). -/
def Obligations.FreeRunningTimerStep : Prop :=
  ∀ (s : State) (k : Ix4) (delta : Nat), 0 ≤ (s.tm.get k).cycles.toInt → (s.tm.get k).cycles.toNat + delta < 2 ^ 31 →
    let t := s.tm.get k
    let avail := t.cycles.toNat + delta
    let inc := avail / 2 ^ shiftOf t.frequency
    let cycles := BitVec.ofNat 32 (avail % 2 ^ shiftOf t.frequency)
    let room := 0x10000 - t.counter.toNat
    let period := 0x10000 - t.reload.toNat
    (inc < room → stepFree k delta s =
      { s with tm := s.tm.set k { t with cycles := cycles, counter := t.counter + BitVec.ofNat 16 inc } }) ∧
    (room ≤ inc → stepFree k delta s =
      { s with
        tm := s.tm.set k { t with
          cycles := cycles
          counter := t.reload + BitVec.ofNat 16 ((inc - room) % period)
          overflow := true }
        out := s.out ++ (if t.interrupt then [⟨.raise (.timer k), s.sched.now, none⟩] else []) ++
          [⟨.timerOverflow k (1 + (inc - room) / period), s.sched.now, none⟩] })

/-- One big step of a free-running timer is two small ones (R414): the same counter and sub-tick count, and the wraps add up. -/
def Obligations.FreeRunningTimerStepsAddUp : Prop :=
  ∀ (t : Timer) (a b : Nat), 0 ≤ t.cycles.toInt →
    let once := t.free (a + b)
    let first := t.free a
    let second := first.1.free b
    once.1.counter = second.1.counter ∧ once.1.cycles = second.1.cycles ∧ once.2 = first.2 + second.2

/-- `StepCascade` (R415, R418): timers 1 to 3 count the overflow of the timer below, consuming its flag; timer 0 has no timer
below it and does not count. -/
def Obligations.CascadedTimerStep : Prop :=
  (∀ s : State, cascadePath .n0 s = s) ∧
  ∀ (s : State) (below k : Ix4), k.toNat = below.toNat + 1 →
    let low := s.tm.get below
    let t := s.tm.get k
    let consumed := s.tm.set below { low with overflow := false }
    (low.overflow = false → cascadePath k s = s) ∧
    (low.overflow = true → t.counter ≠ 0xFFFF →
      cascadePath k s = { s with tm := consumed.set k { t with counter := t.counter + 1 } }) ∧
    (low.overflow = true → t.counter = 0xFFFF →
      cascadePath k s =
        { s with
          tm := consumed.set k { t with counter := t.reload, overflow := true }
          out := s.out ++ (if t.interrupt then [⟨.raise (.timer k), s.sched.now, none⟩] else []) ++
            [⟨.timerOverflow k 1, s.sched.now, none⟩] })

/-- `TimerRun` as a whole (R411, R412, R415 to R418): the four timers take their turns in ascending order, each told whether
the one below has overflowed, by its flag or in this step; no overflow flag is left; the outputs stand in ascending order;
nothing else is written.
A disabled timer, and timer 0 with its cascade bit set, keep counter and sub-tick count. -/
def Obligations.TimerRunLeavesNoFlagAndSkipsDisabled : Prop :=
  ∀ (s : State) (delta : Nat),
    let t := timerRun delta s
    let r0 := Timer.turn (s.tm.get .n0) false delta
    let r1 := Timer.turn (s.tm.get .n1) ((s.tm.get .n0).overflow || decide (1 ≤ r0.2)) delta
    let r2 := Timer.turn (s.tm.get .n2) ((s.tm.get .n1).overflow || decide (1 ≤ r1.2)) delta
    let r3 := Timer.turn (s.tm.get .n3) ((s.tm.get .n2).overflow || decide (1 ≤ r2.2)) delta
    let settled := fun r : Timer × Nat => { r.1 with overflow := false }
    t = { s with
      tm := ⟨settled r0, settled r1, settled r2, settled r3⟩
      out := s.out ++ wrapRecords s .n0 r0.2 ++ wrapRecords s .n1 r1.2 ++ wrapRecords s .n2 r2.2 ++ wrapRecords s .n3 r3.2 } ∧
    (∀ k, (t.tm.get k).overflow = false) ∧
    (∀ k, (s.tm.get k).enable = false → t.tm.get k = { s.tm.get k with overflow := false }) ∧
    (∀ k, (s.tm.get k).enable = true → (s.tm.get k).cascade = false →
      t.tm.get k = { ((s.tm.get k).free delta).1 with overflow := false }) ∧
    ((s.tm.get .n0).enable = true → (s.tm.get .n0).cascade = true →
      t.tm.get .n0 = { s.tm.get .n0 with overflow := false })

/-- Cascade collapse (R419): in one `TimerRun` a cascaded timer 1 above a free-running timer 0 advances by one if timer 0
wrapped, however often, and not at all if it did not. -/
def Obligations.CascadeCollapses : Prop :=
  ∀ (s : State) (delta : Nat),
    (s.tm.get .n0).enable = true → (s.tm.get .n0).cascade = false → (s.tm.get .n0).overflow = false →
    (s.tm.get .n1).enable = true → (s.tm.get .n1).cascade = true →
    let wraps := ((s.tm.get .n0).free delta).2
    let before := (s.tm.get .n1).counter
    let after := ((timerRun delta s).tm.get .n1).counter
    (wraps = 0 → after = before) ∧
    (1 ≤ wraps → after = if before = 0xFFFF then (s.tm.get .n1).reload else before + 1)

/-! ## The renderer -/

/-- `RenderScanline` (R399, R381, R302): on a visible line exactly that row of the frame is written, all 240 pixels: white
under forced blank, unspecified in modes 6 and 7, else the composed and converted colours; on any other line `F_INDEX`. -/
def Obligations.RenderScanlineWritesItsRow : Prop :=
  ∀ s : State, s.fault = none →
    let y := s.ppu.vcount.toNat
    let t := renderScanline s
    (160 ≤ y → t = { s with fault := some .index }) ∧
    (y < 160 →
      t = { s with frame := t.frame, draws := t.draws } ∧
      (∀ y' x, y' ≠ y → t.frame.pixel y' x = s.frame.pixel y' x) ∧
      ∀ x, x < 240 →
        (s.dispcnt.forcedBlank = true →
          t.frame.pixel y x = some (convertColor s.params.pixelFormat 0x7FFF) ∧ t.draws = s.draws) ∧
        (s.dispcnt.forcedBlank = false → 6 ≤ s.dispcnt.mode.toNat →
          t.frame.pixel y x = some (Config.freePixel (s.draws + x)) ∧ t.draws = s.draws + 240) ∧
        (s.dispcnt.forcedBlank = false → s.dispcnt.mode.toNat < 6 →
          t.frame.pixel y x = (compose s y x).map (convertColor s.params.pixelFormat) ∧ t.draws = s.draws))

/-- HEADLINE. Every offset the renderer computes lies inside its array (R97): on a visible line in a defined mode every pixel
has a colour, whatever the registers and the memories hold. -/
def Obligations.RendererStaysInsideItsArrays : Prop :=
  ∀ (s : State) (y x : Nat), y < 160 → x < 240 → s.dispcnt.mode.toNat < 6 → ∃ c, compose s y x = some c

/-- Layers by display mode (R300, R301): a disabled layer, and a layer the mode does not use, is transparent everywhere; an
enabled one shows the text layer of its number or the affine layer of its parameter set, as the mode says.
The bitmap modes 3, 4, 5 (R320, R321, R322): where the pixel of BG2 comes from. -/
def Obligations.LayersByModeAndBitmapPixels : Prop :=
  (∀ (s : State) (y x : Nat) (n : Ix4),
    (s.dispcnt.enable.getLsbD n.toNat = false → bgSlot s y n x = some none) ∧
    (s.dispcnt.mode = 1 → n = .n3 → bgSlot s y n x = some none) ∧
    (s.dispcnt.mode = 2 → n = .n0 ∨ n = .n1 → bgSlot s y n x = some none) ∧
    (s.dispcnt.mode = 3 ∨ s.dispcnt.mode = 4 ∨ s.dispcnt.mode = 5 → n ≠ .n2 → bgSlot s y n x = some none) ∧
    (s.dispcnt.enable.getLsbD n.toNat = true →
      (s.dispcnt.mode = 0 → bgSlot s y n x = textSlot s y n x) ∧
      (s.dispcnt.mode = 1 → n = .n0 ∨ n = .n1 → bgSlot s y n x = textSlot s y n x) ∧
      (s.dispcnt.mode = 1 ∨ s.dispcnt.mode = 2 → n = .n2 → bgSlot s y n x = affineSlot s .n0 x) ∧
      (s.dispcnt.mode = 2 → n = .n3 → bgSlot s y n x = affineSlot s .n1 x))) ∧
  (∀ (s : State) (y x : Nat), y < 160 → x < 240 → s.dispcnt.enable.getLsbD 2 = true →
    let base := if s.dispcnt.frame then 0xA000 else 0
    let direct := fun off => some (some ((s.vram.read (off + 1) ++ s.vram.read off).extractLsb' 0 15))
    let idx := (s.vram.read (base + 240 * y + x)).toNat
    (s.dispcnt.mode = 3 → bgSlot s y .n2 x = direct (2 * (240 * y + x))) ∧
    (s.dispcnt.mode = 4 → idx = 0 → bgSlot s y .n2 x = some none) ∧
    (s.dispcnt.mode = 4 → idx ≠ 0 → bgSlot s y .n2 x =
      some (some ((s.pram.read (2 * idx + 1) ++ s.pram.read (2 * idx)).extractLsb' 0 15))) ∧
    (s.dispcnt.mode = 5 → x < 160 → y < 128 → bgSlot s y .n2 x = direct (base + 2 * (160 * y + x))) ∧
    (s.dispcnt.mode = 5 → 160 ≤ x ∨ 128 ≤ y → bgSlot s y .n2 x = some none))

/-- Text layers (R304, R305, R308): the position on the map, the screen block and its entry, the flips, the tile's byte or
nibble, the palette colour; under mosaic the column of the block's left edge and the line `counter_y` above, a signed
number, so also where the counter exceeds the line.
Hence under mosaic a pixel is the one at the top-left corner of its block without mosaic. -/
def Obligations.TextLayersShowTheirTilesUnderMosaic : Prop :=
  (∀ (s : State) (n : Ix4) (y x : Nat),
    let c := s.bgcnt.get n
    let w := if c.size = 1 ∨ c.size = 3 then 512 else 256
    let h := if c.size = 2 ∨ c.size = 3 then 512 else 256
    let line : Int := if c.mosaicEnable then (y : Int) - s.mosaic.bg.counterY.toNat else y
    let py := ((line + (s.bgvofs.get n).toNat) % h).toNat
    let px := ((if c.mosaicEnable then x - x % (s.mosaic.bg.h.toNat + 1) else x) + (s.bghofs.get n).toNat) % w
    let block := [0, px / 256, py / 256, px / 256 + 2 * (py / 256)].getD c.size.toNat 0
    let e := bgHalf s (0x800 * c.mapBlock.toNat + 0x800 * block + 64 * (py % 256 / 8) + 2 * (px % 256 / 8))
    let tile := (e.extractLsb' 0 10).toNat
    let bank := (e.extractLsb' 12 4).toNat
    let k := if e.getLsbD 10 then 7 - px % 8 else px % 8
    let r := if e.getLsbD 11 then 7 - py % 8 else py % 8
    let idx4 := pixelNibble (bgByte s (0x4000 * c.tileBlock.toNat + 32 * tile + 4 * r + k / 2)) k
    let idx8 := (bgByte s (0x4000 * c.tileBlock.toNat + 64 * tile + 8 * r + k)).toNat
    (c.fullPalette = false → textSlot s y n x = some (indexed s idx4 (2 * (16 * bank + idx4)))) ∧
    (c.fullPalette = true → textSlot s y n x = some (indexed s idx8 (2 * idx8)))) ∧
  ∀ (s : State) (n : Ix4) (y x : Nat),
    (s.bgcnt.get n).mosaicEnable = true → s.mosaic.bg.counterY.toNat ≤ y →
    textSlot s y n x =
      textSlot { s with bgcnt := s.bgcnt.set n { s.bgcnt.get n with mosaicEnable := false } }
        (y - s.mosaic.bg.counterY.toNat) n (x - x % (s.mosaic.bg.h.toNat + 1))

/-- Affine layers (R312): outside the map a layer without wraparound is transparent; with it the map repeats in both
directions; the texel is that of the tile its map byte names, through the palette. -/
def Obligations.AffineLayersClipOrWrap : Prop :=
  (∀ (s : State) (i : Ix2) (x : Nat),
    let c := s.bgcnt.get (affineLayer i)
    let side : Int := 128 * 2 ^ c.size.toNat
    let xs := if c.mosaicEnable then x - x % (s.mosaic.bg.h.toNat + 1) else x
    let texel := fun (current : BitVec 32) (step : BitVec 16) =>
      (BitVec.ofInt 32 (current.toInt + xs * step.toInt)).toInt / 256
    let tx := texel (s.bgx.get i).current (s.bgpa.get i)
    let ty := texel (s.bgy.get i).current (s.bgpc.get i)
    (c.wraparound = false → tx < 0 ∨ side ≤ tx ∨ ty < 0 ∨ side ≤ ty → affineSlot s i x = some none) ∧
    (c.wraparound = false → 0 ≤ tx → tx < side → 0 ≤ ty → ty < side →
      affineSlot s i x = affineTexel s c tx.toNat ty.toNat) ∧
    (c.wraparound = true → affineSlot s i x = affineTexel s c (tx % side).toNat (ty % side).toNat)) ∧
  ∀ (s : State) (c : Bgcnt) (tx ty : Nat),
    let tile := (bgByte s (0x800 * c.mapBlock.toNat + ty / 8 * (128 * 2 ^ c.size.toNat / 8) + tx / 8)).toNat
    let idx := (bgByte s (0x4000 * c.tileBlock.toNat + 64 * tile + 8 * (ty % 8) + tx % 8)).toNat
    affineTexel s c tx ty = some (indexed s idx (2 * idx))

/-- Objects (R340, R342, R343, R350): with objects off the row is empty; a skipped object and one whose box misses the pixel
change nothing; a window-only object sets the window flag and no colour; otherwise the strictly lower priority value
takes the pixel, and the object met first keeps it.
Each object that covers the pixel merges the colour of its texel, a transparent one nothing; the row is what objects 0 to 127
make of the empty slot, in ascending order. -/
def Obligations.ObjectsMergeByPriority : Prop :=
  (∀ (s : State) (y x : Nat), s.dispcnt.enable.getLsbD 4 = false → objSlot s y x = some ⟨none, 3, false, false⟩) ∧
  (∀ (s : State) (y x n : Nat) (d : ObjSlot) (o : ObjAttr), objAttr s n = some o →
    (o.affine = false ∧ o.bit9 = true) ∨ o.mode = 3 ∨ o.shape = 3 ∨ o.covers y x = false →
    objStep s y x d n = some d) ∧
  (∀ (d : ObjSlot) (prio : BitVec 2) (c : Color), d.merge 2 prio c = { d with window := true }) ∧
  (∀ (d : ObjSlot) (mode prio : BitVec 2) (c : Color), mode ≠ 2 →
    (d.color = none ∨ prio.toNat < d.priority.toNat → d.merge mode prio c = ⟨some c, prio, decide (mode = 1), d.window⟩) ∧
    (d.color ≠ none → d.priority.toNat ≤ prio.toNat → d.merge mode prio c = d)) ∧
  (∀ (s : State) (y x n : Nat) (d : ObjSlot) (o : ObjAttr), objAttr s n = some o →
    ¬(o.affine = false ∧ o.bit9 = true) → o.mode ≠ 3 → o.shape ≠ 3 → o.covers y x = true →
    (∀ c, objColorAt s o y x = some (some c) → objStep s y x d n = some (d.merge o.mode o.priority c)) ∧
    (objColorAt s o y x = some none → objStep s y x d n = some d)) ∧
  (∀ (s : State) (y x : Nat), s.dispcnt.enable.getLsbD 4 = true → ∃ row : Nat → ObjSlot,
    row 0 = ⟨none, 3, false, false⟩ ∧ (∀ n, n < 128 → objStep s y x (row n) n = some (row (n + 1))) ∧
    objSlot s y x = some (row 128))

/-- The pixels of an object (R161, R162, R344 to R349, R351, R353): its attributes; its size; its box and the screen pixels that
covers; the local coordinates, under mosaic those of the block and clamped at 0; the texel, flipped or transformed; the
tile number in both mappings; the byte or nibble and the palette colour, nothing below tile 512 in the bitmap modes. -/
def Obligations.ObjectPixels : Prop :=
  (∀ (s : State) (n : Nat), n < 128 →
    let attr := fun k => s.oam.read (8 * n + 2 * k + 1) ++ s.oam.read (8 * n + 2 * k)
    objAttr s n = some
      { y := (attr 0).extractLsb' 0 8, affine := (attr 0).getLsbD 8, bit9 := (attr 0).getLsbD 9
        mode := (attr 0).extractLsb' 10 2, mosaic := (attr 0).getLsbD 12, colors256 := (attr 0).getLsbD 13
        shape := (attr 0).extractLsb' 14 2, x := (attr 1).extractLsb' 0 9, group := (attr 1).extractLsb' 9 5
        hflip := (attr 1).getLsbD 12, vflip := (attr 1).getLsbD 13, size := (attr 1).extractLsb' 14 2
        tile := (attr 2).extractLsb' 0 10, priority := (attr 2).extractLsb' 10 2, palette := (attr 2).extractLsb' 12 4 }) ∧
  (∀ o : ObjAttr, o.shape ≠ 3 →
    let sizes : List (List (Nat × Nat)) :=
      [[(8, 8), (16, 16), (32, 32), (64, 64)], [(16, 8), (32, 8), (32, 16), (64, 32)], [(8, 16), (8, 32), (16, 32), (32, 64)]]
    (o.width, o.height) = (sizes.getD o.shape.toNat []).getD o.size.toNat (0, 0)) ∧
  (∀ (s : State) (o : ObjAttr) (y x : Nat),
    let g := s.mosaic.obj
    let scale := if o.affine = true ∧ o.bit9 = true then 2 else 1
    let bw := scale * o.width
    let bh := scale * o.height
    let ox : Int := if 240 ≤ o.x.toNat then (o.x.toNat : Int) - 512 else o.x.toNat
    let oy : Int := if 160 ≤ o.y.toNat then (o.y.toNat : Int) - 256 else o.y.toNat
    let xs : Int := if o.mosaic then (x : Int) - x % (g.h.toNat + 1) else x
    let ys : Int := if o.mosaic then (y : Int) - g.counterY.toNat else y
    let lx : Int := max 0 (xs - ox)
    let ly : Int := max 0 (ys - oy)
    let param := fun k => (s.oam.read (32 * o.group.toNat + k + 1) ++ s.oam.read (32 * o.group.toNat + k)).toInt
    let dx := lx - (bw / 2 : Nat)
    let dy := ly - (bh / 2 : Nat)
    let tx := (param 6 * dx + param 14 * dy) / 256 + (o.width / 2 : Nat)
    let ty := (param 22 * dx + param 30 * dy) / 256 + (o.height / 2 : Nat)
    let inside := 0 ≤ tx ∧ tx < o.width ∧ 0 ≤ ty ∧ ty < o.height
    (o.covers y x = true ↔ oy ≤ y ∧ y < oy + bh ∧ ox ≤ x ∧ x < ox + bw) ∧
    (o.affine = false → objColorAt s o y x = objPixel s o
      (if o.hflip then o.width - 1 - lx else lx).toNat (if o.vflip then o.height - 1 - ly else ly).toNat) ∧
    (o.affine = true → inside → objColorAt s o y x = objPixel s o tx.toNat ty.toNat) ∧
    (o.affine = true → ¬inside → objColorAt s o y x = some none)) ∧
  (∀ (s : State) (o : ObjAttr) (tx ty : Nat),
    let u := if o.colors256 then 2 else 1
    let number :=
      if s.dispcnt.oamMapping1d then o.tile.toNat + ty / 8 * (o.width / 8) * u + tx / 8 * u
      else (if o.colors256 then o.tile.toNat / 2 * 2 else o.tile.toNat) + ty / 8 * 32 + tx / 8 * u
    let t := number % 1024
    let byte := fun off => s.vram.read (0x10000 + off % 0x8000)
    let hidden := (s.dispcnt.mode = 3 ∨ s.dispcnt.mode = 4 ∨ s.dispcnt.mode = 5) ∧ t < 512
    let idx4 := pixelNibble (byte (32 * t + 4 * (ty % 8) + tx % 8 / 2)) (tx % 8)
    let idx8 := (byte (32 * t + 8 * (ty % 8) + tx % 8)).toNat
    (hidden → objPixel s o tx ty = some none) ∧
    (¬hidden → o.colors256 = false →
      objPixel s o tx ty = some (indexed s idx4 (0x200 + 2 * (16 * o.palette.toNat + idx4)))) ∧
    (¬hidden → o.colors256 = true → objPixel s o tx ty = some (indexed s idx8 (0x200 + 2 * idx8))))

/-- Windows (R360 to R362): the geometry of a range, and which control bits are in force. -/
def Obligations.WindowsSelectTheControlBits : Prop :=
  (∀ (r : WinRange) (v : Nat), r.holds v = true ↔
    (r.min.toNat ≤ r.max.toNat ∧ r.min.toNat ≤ v ∧ v < r.max.toNat) ∨
    (r.max.toNat < r.min.toNat ∧ (r.min.toNat ≤ v ∨ v < r.max.toNat))) ∧
  ∀ (s : State) (y x : Nat) (d : ObjSlot),
    let on := fun k : Nat => s.dispcnt.enable.getLsbD k = true
    let inside := fun w : Ix2 => on (5 + w.toNat) ∧ (s.winv.get w).holds y = true ∧ (s.winh.get w).holds x = true
    (¬ on 5 → ¬ on 6 → ¬ on 7 → winCtl s y x d = 0x3F) ∧
    (inside .n0 → winCtl s y x d = s.winin.e0) ∧
    (¬ inside .n0 → inside .n1 → winCtl s y x d = s.winin.e1) ∧
    (¬ inside .n0 → ¬ inside .n1 → on 7 → d.window = true → winCtl s y x d = s.winout.e1) ∧
    (¬ inside .n0 → ¬ inside .n1 → on 5 ∨ on 6 ∨ on 7 → ¬ on 7 ∨ d.window = false → winCtl s y x d = s.winout.e0)

/-- Layer selection (R382, R383): the candidates are the opaque pixels that the window lets through, each with its priority and
its order, 0 for the object row and `1 + n` for layer `n`; in front stands the lower priority, then the lower order; the
composed colour is the effect on the two front-most, the backdrop, colour 0 of the palette, behind them. -/
def Obligations.ComposeTakesTheFrontTwo : Prop :=
  ∀ (s : State) (y x : Nat) (c : Ix4 → Slot) (d : ObjSlot),
    (∀ n, bgSlot s y n x = some (c n)) → objSlot s y x = some d →
    let ctl := winCtl s y x d
    let back := paletteColor s 0
    ∃ front : List Layer,
      (∀ l, l ∈ front ↔
        (∃ n col, c n = some col ∧ ctl.getLsbD n.toNat = true ∧
          l = ⟨(s.bgcnt.get n).priority.toNat, 1 + n.toNat, n.toNat, col⟩) ∨
        (∃ col, d.color = some col ∧ ctl.getLsbD 4 = true ∧ l = ⟨d.priority.toNat, 0, 4, col⟩)) ∧
      front.Pairwise (fun a b => a.priority < b.priority ∨ (a.priority = b.priority ∧ a.order < b.order)) ∧
      compose s y x = some
        (match front with
        | [] => effect s ctl d 5 back none
        | [a] => effect s ctl d a.id a.color (some (5, back))
        | a :: b :: _ => effect s ctl d a.id a.color (some (b.id, b.color)))

/-- The blend effect (R385): when each of its branches is taken. -/
def Obligations.EffectBranches : Prop :=
  ∀ (s : State) (ctl : BitVec 6) (d : ObjSlot) (id : Nat) (top : Color) (second : Option (Nat × Color)),
    let first := s.bldcnt.targets.e0.getLsbD id = true
    let semi := id = 4 ∧ d.alpha = true
    let target := fun id2 : Nat => s.bldcnt.targets.e1.getLsbD id2 = true
    let e := effect s ctl d id top second
    (ctl.getLsbD 5 = false → e = top) ∧
    (ctl.getLsbD 5 = true → ∀ id2 c2, second = some (id2, c2) → target id2 →
      semi ∨ (first ∧ s.bldcnt.sfx = 1) → e = alphaBlend s.eva s.evb top c2) ∧
    (ctl.getLsbD 5 = true → second = none ∨ (∃ id2 c2, second = some (id2, c2) ∧ ¬ target id2) ∨ ¬ semi →
      (¬ first ∨ s.bldcnt.sfx = 0 → e = top) ∧
      (first → s.bldcnt.sfx = 2 → e = brighten s.evy top) ∧
      (first → s.bldcnt.sfx = 3 → e = darken s.evy top)) ∧
    (ctl.getLsbD 5 = true → first → s.bldcnt.sfx = 1 →
      second = none ∨ (∃ id2 c2, second = some (id2, c2) ∧ ¬ target id2) → e = top)

/-- The blend unit (R386, R387, R391, R392, R393): every channel of the three effects, with the factors clamped to 16; blending
a colour with itself by factors that sum to 16 gives it back. `ConvertColor` (R398) in its default format. -/
def Obligations.BlendAndPixelArithmetic : Prop :=
  (∀ (eva evb : BitVec 5) (a b : Color) (k : Nat), k < 3 →
    channel (alphaBlend eva evb a b) k =
      min 31 ((channel a k * min 16 eva.toNat + channel b k * min 16 evb.toNat) / 16)) ∧
  (∀ (evy : BitVec 5) (a : Color) (k : Nat), k < 3 →
    channel (brighten evy a) k = channel a k + (31 - channel a k) * min 16 evy.toNat / 16 ∧
    channel (darken evy a) k = channel a k * (16 - min 16 evy.toNat) / 16) ∧
  (∀ eva evb : BitVec 5, eva.toNat + evb.toNat = 16 → ∀ a : Color, alphaBlend eva evb a a = a) ∧
  (∀ c : Color,
    convertColor .argb32 c =
      0xFF000000 ||| ((c.extractLsb' 0 5).setWidth 32 <<< 19) ||| ((c.extractLsb' 5 5).setWidth 32 <<< 11) |||
        ((c.extractLsb' 10 5).setWidth 32 <<< 3))
end

