-- ==== Sys2Proof/Laws/State.lean ====
section
/-! SUPPORT. Laws/State.lean: what each named update of the state does to each field, one lemma a field. -/

namespace Sys2Proof.Machine

/-! ## emit -/

@[simp] theorem emit_sched (w : Output) (f : Option Word64) (s : State) : (emit w f s).sched = s.sched := rfl
@[simp] theorem emit_ppu (w : Output) (f : Option Word64) (s : State) : (emit w f s).ppu = s.ppu := rfl
@[simp] theorem emit_dispcnt (w : Output) (f : Option Word64) (s : State) : (emit w f s).dispcnt = s.dispcnt := rfl
@[simp] theorem emit_dispstat (w : Output) (f : Option Word64) (s : State) : (emit w f s).dispstat = s.dispstat := rfl
@[simp] theorem emit_bgcnt (w : Output) (f : Option Word64) (s : State) : (emit w f s).bgcnt = s.bgcnt := rfl
@[simp] theorem emit_bghofs (w : Output) (f : Option Word64) (s : State) : (emit w f s).bghofs = s.bghofs := rfl
@[simp] theorem emit_bgvofs (w : Output) (f : Option Word64) (s : State) : (emit w f s).bgvofs = s.bgvofs := rfl
@[simp] theorem emit_winh (w : Output) (f : Option Word64) (s : State) : (emit w f s).winh = s.winh := rfl
@[simp] theorem emit_winv (w : Output) (f : Option Word64) (s : State) : (emit w f s).winv = s.winv := rfl
@[simp] theorem emit_winin (w : Output) (f : Option Word64) (s : State) : (emit w f s).winin = s.winin := rfl
@[simp] theorem emit_winout (w : Output) (f : Option Word64) (s : State) : (emit w f s).winout = s.winout := rfl
@[simp] theorem emit_mosaic (w : Output) (f : Option Word64) (s : State) : (emit w f s).mosaic = s.mosaic := rfl
@[simp] theorem emit_bldcnt (w : Output) (f : Option Word64) (s : State) : (emit w f s).bldcnt = s.bldcnt := rfl
@[simp] theorem emit_eva (w : Output) (f : Option Word64) (s : State) : (emit w f s).eva = s.eva := rfl
@[simp] theorem emit_evb (w : Output) (f : Option Word64) (s : State) : (emit w f s).evb = s.evb := rfl
@[simp] theorem emit_evy (w : Output) (f : Option Word64) (s : State) : (emit w f s).evy = s.evy := rfl
@[simp] theorem emit_bgpa (w : Output) (f : Option Word64) (s : State) : (emit w f s).bgpa = s.bgpa := rfl
@[simp] theorem emit_bgpb (w : Output) (f : Option Word64) (s : State) : (emit w f s).bgpb = s.bgpb := rfl
@[simp] theorem emit_bgpc (w : Output) (f : Option Word64) (s : State) : (emit w f s).bgpc = s.bgpc := rfl
@[simp] theorem emit_bgpd (w : Output) (f : Option Word64) (s : State) : (emit w f s).bgpd = s.bgpd := rfl
@[simp] theorem emit_bgx (w : Output) (f : Option Word64) (s : State) : (emit w f s).bgx = s.bgx := rfl
@[simp] theorem emit_bgy (w : Output) (f : Option Word64) (s : State) : (emit w f s).bgy = s.bgy := rfl
@[simp] theorem emit_pram (w : Output) (f : Option Word64) (s : State) : (emit w f s).pram = s.pram := rfl
@[simp] theorem emit_oam (w : Output) (f : Option Word64) (s : State) : (emit w f s).oam = s.oam := rfl
@[simp] theorem emit_vram (w : Output) (f : Option Word64) (s : State) : (emit w f s).vram = s.vram := rfl
@[simp] theorem emit_frame (w : Output) (f : Option Word64) (s : State) : (emit w f s).frame = s.frame := rfl
@[simp] theorem emit_tm (w : Output) (f : Option Word64) (s : State) : (emit w f s).tm = s.tm := rfl
@[simp] theorem emit_fault (w : Output) (f : Option Word64) (s : State) : (emit w f s).fault = s.fault := rfl
@[simp] theorem emit_out (w : Output) (f : Option Word64) (s : State) : (emit w f s).out = s.out ++ [⟨w, s.sched.now, f⟩] := rfl
@[simp] theorem emit_input (w : Output) (f : Option Word64) (s : State) : (emit w f s).input = s.input := rfl
@[simp] theorem emit_readout (w : Output) (f : Option Word64) (s : State) : (emit w f s).readout = s.readout := rfl
@[simp] theorem emit_draws (w : Output) (f : Option Word64) (s : State) : (emit w f s).draws = s.draws := rfl
@[simp] theorem emit_params (w : Output) (f : Option Word64) (s : State) : (emit w f s).params = s.params := rfl

/-! ## addCycles -/

@[simp] theorem addCycles_sched (d : Nat) (s : State) : (addCycles d s).sched = { s.sched with now := s.sched.now + BitVec.ofNat 64 d } := rfl
@[simp] theorem addCycles_ppu (d : Nat) (s : State) : (addCycles d s).ppu = s.ppu := rfl
@[simp] theorem addCycles_dispcnt (d : Nat) (s : State) : (addCycles d s).dispcnt = s.dispcnt := rfl
@[simp] theorem addCycles_dispstat (d : Nat) (s : State) : (addCycles d s).dispstat = s.dispstat := rfl
@[simp] theorem addCycles_bgcnt (d : Nat) (s : State) : (addCycles d s).bgcnt = s.bgcnt := rfl
@[simp] theorem addCycles_bghofs (d : Nat) (s : State) : (addCycles d s).bghofs = s.bghofs := rfl
@[simp] theorem addCycles_bgvofs (d : Nat) (s : State) : (addCycles d s).bgvofs = s.bgvofs := rfl
@[simp] theorem addCycles_winh (d : Nat) (s : State) : (addCycles d s).winh = s.winh := rfl
@[simp] theorem addCycles_winv (d : Nat) (s : State) : (addCycles d s).winv = s.winv := rfl
@[simp] theorem addCycles_winin (d : Nat) (s : State) : (addCycles d s).winin = s.winin := rfl
@[simp] theorem addCycles_winout (d : Nat) (s : State) : (addCycles d s).winout = s.winout := rfl
@[simp] theorem addCycles_mosaic (d : Nat) (s : State) : (addCycles d s).mosaic = s.mosaic := rfl
@[simp] theorem addCycles_bldcnt (d : Nat) (s : State) : (addCycles d s).bldcnt = s.bldcnt := rfl
@[simp] theorem addCycles_eva (d : Nat) (s : State) : (addCycles d s).eva = s.eva := rfl
@[simp] theorem addCycles_evb (d : Nat) (s : State) : (addCycles d s).evb = s.evb := rfl
@[simp] theorem addCycles_evy (d : Nat) (s : State) : (addCycles d s).evy = s.evy := rfl
@[simp] theorem addCycles_bgpa (d : Nat) (s : State) : (addCycles d s).bgpa = s.bgpa := rfl
@[simp] theorem addCycles_bgpb (d : Nat) (s : State) : (addCycles d s).bgpb = s.bgpb := rfl
@[simp] theorem addCycles_bgpc (d : Nat) (s : State) : (addCycles d s).bgpc = s.bgpc := rfl
@[simp] theorem addCycles_bgpd (d : Nat) (s : State) : (addCycles d s).bgpd = s.bgpd := rfl
@[simp] theorem addCycles_bgx (d : Nat) (s : State) : (addCycles d s).bgx = s.bgx := rfl
@[simp] theorem addCycles_bgy (d : Nat) (s : State) : (addCycles d s).bgy = s.bgy := rfl
@[simp] theorem addCycles_pram (d : Nat) (s : State) : (addCycles d s).pram = s.pram := rfl
@[simp] theorem addCycles_oam (d : Nat) (s : State) : (addCycles d s).oam = s.oam := rfl
@[simp] theorem addCycles_vram (d : Nat) (s : State) : (addCycles d s).vram = s.vram := rfl
@[simp] theorem addCycles_frame (d : Nat) (s : State) : (addCycles d s).frame = s.frame := rfl
@[simp] theorem addCycles_tm (d : Nat) (s : State) : (addCycles d s).tm = s.tm := rfl
@[simp] theorem addCycles_fault (d : Nat) (s : State) : (addCycles d s).fault = s.fault := rfl
@[simp] theorem addCycles_out (d : Nat) (s : State) : (addCycles d s).out = s.out := rfl
@[simp] theorem addCycles_input (d : Nat) (s : State) : (addCycles d s).input = s.input := rfl
@[simp] theorem addCycles_readout (d : Nat) (s : State) : (addCycles d s).readout = s.readout := rfl
@[simp] theorem addCycles_draws (d : Nat) (s : State) : (addCycles d s).draws = s.draws := rfl
@[simp] theorem addCycles_params (d : Nat) (s : State) : (addCycles d s).params = s.params := rfl

/-! ## popEvent -/

@[simp] theorem popEvent_sched (s : State) : (popEvent s).sched = { s.sched with queue := s.sched.queue.tail } := rfl
@[simp] theorem popEvent_ppu (s : State) : (popEvent s).ppu = s.ppu := rfl
@[simp] theorem popEvent_dispcnt (s : State) : (popEvent s).dispcnt = s.dispcnt := rfl
@[simp] theorem popEvent_dispstat (s : State) : (popEvent s).dispstat = s.dispstat := rfl
@[simp] theorem popEvent_bgcnt (s : State) : (popEvent s).bgcnt = s.bgcnt := rfl
@[simp] theorem popEvent_bghofs (s : State) : (popEvent s).bghofs = s.bghofs := rfl
@[simp] theorem popEvent_bgvofs (s : State) : (popEvent s).bgvofs = s.bgvofs := rfl
@[simp] theorem popEvent_winh (s : State) : (popEvent s).winh = s.winh := rfl
@[simp] theorem popEvent_winv (s : State) : (popEvent s).winv = s.winv := rfl
@[simp] theorem popEvent_winin (s : State) : (popEvent s).winin = s.winin := rfl
@[simp] theorem popEvent_winout (s : State) : (popEvent s).winout = s.winout := rfl
@[simp] theorem popEvent_mosaic (s : State) : (popEvent s).mosaic = s.mosaic := rfl
@[simp] theorem popEvent_bldcnt (s : State) : (popEvent s).bldcnt = s.bldcnt := rfl
@[simp] theorem popEvent_eva (s : State) : (popEvent s).eva = s.eva := rfl
@[simp] theorem popEvent_evb (s : State) : (popEvent s).evb = s.evb := rfl
@[simp] theorem popEvent_evy (s : State) : (popEvent s).evy = s.evy := rfl
@[simp] theorem popEvent_bgpa (s : State) : (popEvent s).bgpa = s.bgpa := rfl
@[simp] theorem popEvent_bgpb (s : State) : (popEvent s).bgpb = s.bgpb := rfl
@[simp] theorem popEvent_bgpc (s : State) : (popEvent s).bgpc = s.bgpc := rfl
@[simp] theorem popEvent_bgpd (s : State) : (popEvent s).bgpd = s.bgpd := rfl
@[simp] theorem popEvent_bgx (s : State) : (popEvent s).bgx = s.bgx := rfl
@[simp] theorem popEvent_bgy (s : State) : (popEvent s).bgy = s.bgy := rfl
@[simp] theorem popEvent_pram (s : State) : (popEvent s).pram = s.pram := rfl
@[simp] theorem popEvent_oam (s : State) : (popEvent s).oam = s.oam := rfl
@[simp] theorem popEvent_vram (s : State) : (popEvent s).vram = s.vram := rfl
@[simp] theorem popEvent_frame (s : State) : (popEvent s).frame = s.frame := rfl
@[simp] theorem popEvent_tm (s : State) : (popEvent s).tm = s.tm := rfl
@[simp] theorem popEvent_fault (s : State) : (popEvent s).fault = s.fault := rfl
@[simp] theorem popEvent_out (s : State) : (popEvent s).out = s.out := rfl
@[simp] theorem popEvent_input (s : State) : (popEvent s).input = s.input := rfl
@[simp] theorem popEvent_readout (s : State) : (popEvent s).readout = s.readout := rfl
@[simp] theorem popEvent_draws (s : State) : (popEvent s).draws = s.draws := rfl
@[simp] theorem popEvent_params (s : State) : (popEvent s).params = s.params := rfl

/-! ## takeCommand -/

@[simp] theorem takeCommand_sched (s : State) : (takeCommand s).sched = s.sched := rfl
@[simp] theorem takeCommand_ppu (s : State) : (takeCommand s).ppu = s.ppu := rfl
@[simp] theorem takeCommand_dispcnt (s : State) : (takeCommand s).dispcnt = s.dispcnt := rfl
@[simp] theorem takeCommand_dispstat (s : State) : (takeCommand s).dispstat = s.dispstat := rfl
@[simp] theorem takeCommand_bgcnt (s : State) : (takeCommand s).bgcnt = s.bgcnt := rfl
@[simp] theorem takeCommand_bghofs (s : State) : (takeCommand s).bghofs = s.bghofs := rfl
@[simp] theorem takeCommand_bgvofs (s : State) : (takeCommand s).bgvofs = s.bgvofs := rfl
@[simp] theorem takeCommand_winh (s : State) : (takeCommand s).winh = s.winh := rfl
@[simp] theorem takeCommand_winv (s : State) : (takeCommand s).winv = s.winv := rfl
@[simp] theorem takeCommand_winin (s : State) : (takeCommand s).winin = s.winin := rfl
@[simp] theorem takeCommand_winout (s : State) : (takeCommand s).winout = s.winout := rfl
@[simp] theorem takeCommand_mosaic (s : State) : (takeCommand s).mosaic = s.mosaic := rfl
@[simp] theorem takeCommand_bldcnt (s : State) : (takeCommand s).bldcnt = s.bldcnt := rfl
@[simp] theorem takeCommand_eva (s : State) : (takeCommand s).eva = s.eva := rfl
@[simp] theorem takeCommand_evb (s : State) : (takeCommand s).evb = s.evb := rfl
@[simp] theorem takeCommand_evy (s : State) : (takeCommand s).evy = s.evy := rfl
@[simp] theorem takeCommand_bgpa (s : State) : (takeCommand s).bgpa = s.bgpa := rfl
@[simp] theorem takeCommand_bgpb (s : State) : (takeCommand s).bgpb = s.bgpb := rfl
@[simp] theorem takeCommand_bgpc (s : State) : (takeCommand s).bgpc = s.bgpc := rfl
@[simp] theorem takeCommand_bgpd (s : State) : (takeCommand s).bgpd = s.bgpd := rfl
@[simp] theorem takeCommand_bgx (s : State) : (takeCommand s).bgx = s.bgx := rfl
@[simp] theorem takeCommand_bgy (s : State) : (takeCommand s).bgy = s.bgy := rfl
@[simp] theorem takeCommand_pram (s : State) : (takeCommand s).pram = s.pram := rfl
@[simp] theorem takeCommand_oam (s : State) : (takeCommand s).oam = s.oam := rfl
@[simp] theorem takeCommand_vram (s : State) : (takeCommand s).vram = s.vram := rfl
@[simp] theorem takeCommand_frame (s : State) : (takeCommand s).frame = s.frame := rfl
@[simp] theorem takeCommand_tm (s : State) : (takeCommand s).tm = s.tm := rfl
@[simp] theorem takeCommand_fault (s : State) : (takeCommand s).fault = s.fault := rfl
@[simp] theorem takeCommand_out (s : State) : (takeCommand s).out = s.out := rfl
@[simp] theorem takeCommand_input (s : State) : (takeCommand s).input = s.input.tail := rfl
@[simp] theorem takeCommand_readout (s : State) : (takeCommand s).readout = s.readout := rfl
@[simp] theorem takeCommand_draws (s : State) : (takeCommand s).draws = s.draws := rfl
@[simp] theorem takeCommand_params (s : State) : (takeCommand s).params = s.params := rfl

/-! ## returnValue -/

@[simp] theorem returnValue_sched (v : ReadValue) (s : State) : (returnValue v s).sched = s.sched := rfl
@[simp] theorem returnValue_ppu (v : ReadValue) (s : State) : (returnValue v s).ppu = s.ppu := rfl
@[simp] theorem returnValue_dispcnt (v : ReadValue) (s : State) : (returnValue v s).dispcnt = s.dispcnt := rfl
@[simp] theorem returnValue_dispstat (v : ReadValue) (s : State) : (returnValue v s).dispstat = s.dispstat := rfl
@[simp] theorem returnValue_bgcnt (v : ReadValue) (s : State) : (returnValue v s).bgcnt = s.bgcnt := rfl
@[simp] theorem returnValue_bghofs (v : ReadValue) (s : State) : (returnValue v s).bghofs = s.bghofs := rfl
@[simp] theorem returnValue_bgvofs (v : ReadValue) (s : State) : (returnValue v s).bgvofs = s.bgvofs := rfl
@[simp] theorem returnValue_winh (v : ReadValue) (s : State) : (returnValue v s).winh = s.winh := rfl
@[simp] theorem returnValue_winv (v : ReadValue) (s : State) : (returnValue v s).winv = s.winv := rfl
@[simp] theorem returnValue_winin (v : ReadValue) (s : State) : (returnValue v s).winin = s.winin := rfl
@[simp] theorem returnValue_winout (v : ReadValue) (s : State) : (returnValue v s).winout = s.winout := rfl
@[simp] theorem returnValue_mosaic (v : ReadValue) (s : State) : (returnValue v s).mosaic = s.mosaic := rfl
@[simp] theorem returnValue_bldcnt (v : ReadValue) (s : State) : (returnValue v s).bldcnt = s.bldcnt := rfl
@[simp] theorem returnValue_eva (v : ReadValue) (s : State) : (returnValue v s).eva = s.eva := rfl
@[simp] theorem returnValue_evb (v : ReadValue) (s : State) : (returnValue v s).evb = s.evb := rfl
@[simp] theorem returnValue_evy (v : ReadValue) (s : State) : (returnValue v s).evy = s.evy := rfl
@[simp] theorem returnValue_bgpa (v : ReadValue) (s : State) : (returnValue v s).bgpa = s.bgpa := rfl
@[simp] theorem returnValue_bgpb (v : ReadValue) (s : State) : (returnValue v s).bgpb = s.bgpb := rfl
@[simp] theorem returnValue_bgpc (v : ReadValue) (s : State) : (returnValue v s).bgpc = s.bgpc := rfl
@[simp] theorem returnValue_bgpd (v : ReadValue) (s : State) : (returnValue v s).bgpd = s.bgpd := rfl
@[simp] theorem returnValue_bgx (v : ReadValue) (s : State) : (returnValue v s).bgx = s.bgx := rfl
@[simp] theorem returnValue_bgy (v : ReadValue) (s : State) : (returnValue v s).bgy = s.bgy := rfl
@[simp] theorem returnValue_pram (v : ReadValue) (s : State) : (returnValue v s).pram = s.pram := rfl
@[simp] theorem returnValue_oam (v : ReadValue) (s : State) : (returnValue v s).oam = s.oam := rfl
@[simp] theorem returnValue_vram (v : ReadValue) (s : State) : (returnValue v s).vram = s.vram := rfl
@[simp] theorem returnValue_frame (v : ReadValue) (s : State) : (returnValue v s).frame = s.frame := rfl
@[simp] theorem returnValue_tm (v : ReadValue) (s : State) : (returnValue v s).tm = s.tm := rfl
@[simp] theorem returnValue_fault (v : ReadValue) (s : State) : (returnValue v s).fault = s.fault := rfl
@[simp] theorem returnValue_out (v : ReadValue) (s : State) : (returnValue v s).out = s.out := rfl
@[simp] theorem returnValue_input (v : ReadValue) (s : State) : (returnValue v s).input = s.input := rfl
@[simp] theorem returnValue_readout (v : ReadValue) (s : State) : (returnValue v s).readout = some v := rfl
@[simp] theorem returnValue_draws (v : ReadValue) (s : State) : (returnValue v s).draws = s.draws := rfl
@[simp] theorem returnValue_params (v : ReadValue) (s : State) : (returnValue v s).params = s.params := rfl

/-! ## setVcount -/

@[simp] theorem setVcount_sched (v : BitVec 8) (s : State) : (setVcount v s).sched = s.sched := rfl
@[simp] theorem setVcount_ppu (v : BitVec 8) (s : State) : (setVcount v s).ppu = { s.ppu with vcount := v } := rfl
@[simp] theorem setVcount_dispcnt (v : BitVec 8) (s : State) : (setVcount v s).dispcnt = s.dispcnt := rfl
@[simp] theorem setVcount_dispstat (v : BitVec 8) (s : State) : (setVcount v s).dispstat = s.dispstat := rfl
@[simp] theorem setVcount_bgcnt (v : BitVec 8) (s : State) : (setVcount v s).bgcnt = s.bgcnt := rfl
@[simp] theorem setVcount_bghofs (v : BitVec 8) (s : State) : (setVcount v s).bghofs = s.bghofs := rfl
@[simp] theorem setVcount_bgvofs (v : BitVec 8) (s : State) : (setVcount v s).bgvofs = s.bgvofs := rfl
@[simp] theorem setVcount_winh (v : BitVec 8) (s : State) : (setVcount v s).winh = s.winh := rfl
@[simp] theorem setVcount_winv (v : BitVec 8) (s : State) : (setVcount v s).winv = s.winv := rfl
@[simp] theorem setVcount_winin (v : BitVec 8) (s : State) : (setVcount v s).winin = s.winin := rfl
@[simp] theorem setVcount_winout (v : BitVec 8) (s : State) : (setVcount v s).winout = s.winout := rfl
@[simp] theorem setVcount_mosaic (v : BitVec 8) (s : State) : (setVcount v s).mosaic = s.mosaic := rfl
@[simp] theorem setVcount_bldcnt (v : BitVec 8) (s : State) : (setVcount v s).bldcnt = s.bldcnt := rfl
@[simp] theorem setVcount_eva (v : BitVec 8) (s : State) : (setVcount v s).eva = s.eva := rfl
@[simp] theorem setVcount_evb (v : BitVec 8) (s : State) : (setVcount v s).evb = s.evb := rfl
@[simp] theorem setVcount_evy (v : BitVec 8) (s : State) : (setVcount v s).evy = s.evy := rfl
@[simp] theorem setVcount_bgpa (v : BitVec 8) (s : State) : (setVcount v s).bgpa = s.bgpa := rfl
@[simp] theorem setVcount_bgpb (v : BitVec 8) (s : State) : (setVcount v s).bgpb = s.bgpb := rfl
@[simp] theorem setVcount_bgpc (v : BitVec 8) (s : State) : (setVcount v s).bgpc = s.bgpc := rfl
@[simp] theorem setVcount_bgpd (v : BitVec 8) (s : State) : (setVcount v s).bgpd = s.bgpd := rfl
@[simp] theorem setVcount_bgx (v : BitVec 8) (s : State) : (setVcount v s).bgx = s.bgx := rfl
@[simp] theorem setVcount_bgy (v : BitVec 8) (s : State) : (setVcount v s).bgy = s.bgy := rfl
@[simp] theorem setVcount_pram (v : BitVec 8) (s : State) : (setVcount v s).pram = s.pram := rfl
@[simp] theorem setVcount_oam (v : BitVec 8) (s : State) : (setVcount v s).oam = s.oam := rfl
@[simp] theorem setVcount_vram (v : BitVec 8) (s : State) : (setVcount v s).vram = s.vram := rfl
@[simp] theorem setVcount_frame (v : BitVec 8) (s : State) : (setVcount v s).frame = s.frame := rfl
@[simp] theorem setVcount_tm (v : BitVec 8) (s : State) : (setVcount v s).tm = s.tm := rfl
@[simp] theorem setVcount_fault (v : BitVec 8) (s : State) : (setVcount v s).fault = s.fault := rfl
@[simp] theorem setVcount_out (v : BitVec 8) (s : State) : (setVcount v s).out = s.out := rfl
@[simp] theorem setVcount_input (v : BitVec 8) (s : State) : (setVcount v s).input = s.input := rfl
@[simp] theorem setVcount_readout (v : BitVec 8) (s : State) : (setVcount v s).readout = s.readout := rfl
@[simp] theorem setVcount_draws (v : BitVec 8) (s : State) : (setVcount v s).draws = s.draws := rfl
@[simp] theorem setVcount_params (v : BitVec 8) (s : State) : (setVcount v s).params = s.params := rfl

/-! ## setHblankFlag -/

@[simp] theorem setHblankFlag_sched (b : Bool) (s : State) : (setHblankFlag b s).sched = s.sched := rfl
@[simp] theorem setHblankFlag_ppu (b : Bool) (s : State) : (setHblankFlag b s).ppu = s.ppu := rfl
@[simp] theorem setHblankFlag_dispcnt (b : Bool) (s : State) : (setHblankFlag b s).dispcnt = s.dispcnt := rfl
@[simp] theorem setHblankFlag_dispstat (b : Bool) (s : State) : (setHblankFlag b s).dispstat = { s.dispstat with hblankFlag := b } := rfl
@[simp] theorem setHblankFlag_bgcnt (b : Bool) (s : State) : (setHblankFlag b s).bgcnt = s.bgcnt := rfl
@[simp] theorem setHblankFlag_bghofs (b : Bool) (s : State) : (setHblankFlag b s).bghofs = s.bghofs := rfl
@[simp] theorem setHblankFlag_bgvofs (b : Bool) (s : State) : (setHblankFlag b s).bgvofs = s.bgvofs := rfl
@[simp] theorem setHblankFlag_winh (b : Bool) (s : State) : (setHblankFlag b s).winh = s.winh := rfl
@[simp] theorem setHblankFlag_winv (b : Bool) (s : State) : (setHblankFlag b s).winv = s.winv := rfl
@[simp] theorem setHblankFlag_winin (b : Bool) (s : State) : (setHblankFlag b s).winin = s.winin := rfl
@[simp] theorem setHblankFlag_winout (b : Bool) (s : State) : (setHblankFlag b s).winout = s.winout := rfl
@[simp] theorem setHblankFlag_mosaic (b : Bool) (s : State) : (setHblankFlag b s).mosaic = s.mosaic := rfl
@[simp] theorem setHblankFlag_bldcnt (b : Bool) (s : State) : (setHblankFlag b s).bldcnt = s.bldcnt := rfl
@[simp] theorem setHblankFlag_eva (b : Bool) (s : State) : (setHblankFlag b s).eva = s.eva := rfl
@[simp] theorem setHblankFlag_evb (b : Bool) (s : State) : (setHblankFlag b s).evb = s.evb := rfl
@[simp] theorem setHblankFlag_evy (b : Bool) (s : State) : (setHblankFlag b s).evy = s.evy := rfl
@[simp] theorem setHblankFlag_bgpa (b : Bool) (s : State) : (setHblankFlag b s).bgpa = s.bgpa := rfl
@[simp] theorem setHblankFlag_bgpb (b : Bool) (s : State) : (setHblankFlag b s).bgpb = s.bgpb := rfl
@[simp] theorem setHblankFlag_bgpc (b : Bool) (s : State) : (setHblankFlag b s).bgpc = s.bgpc := rfl
@[simp] theorem setHblankFlag_bgpd (b : Bool) (s : State) : (setHblankFlag b s).bgpd = s.bgpd := rfl
@[simp] theorem setHblankFlag_bgx (b : Bool) (s : State) : (setHblankFlag b s).bgx = s.bgx := rfl
@[simp] theorem setHblankFlag_bgy (b : Bool) (s : State) : (setHblankFlag b s).bgy = s.bgy := rfl
@[simp] theorem setHblankFlag_pram (b : Bool) (s : State) : (setHblankFlag b s).pram = s.pram := rfl
@[simp] theorem setHblankFlag_oam (b : Bool) (s : State) : (setHblankFlag b s).oam = s.oam := rfl
@[simp] theorem setHblankFlag_vram (b : Bool) (s : State) : (setHblankFlag b s).vram = s.vram := rfl
@[simp] theorem setHblankFlag_frame (b : Bool) (s : State) : (setHblankFlag b s).frame = s.frame := rfl
@[simp] theorem setHblankFlag_tm (b : Bool) (s : State) : (setHblankFlag b s).tm = s.tm := rfl
@[simp] theorem setHblankFlag_fault (b : Bool) (s : State) : (setHblankFlag b s).fault = s.fault := rfl
@[simp] theorem setHblankFlag_out (b : Bool) (s : State) : (setHblankFlag b s).out = s.out := rfl
@[simp] theorem setHblankFlag_input (b : Bool) (s : State) : (setHblankFlag b s).input = s.input := rfl
@[simp] theorem setHblankFlag_readout (b : Bool) (s : State) : (setHblankFlag b s).readout = s.readout := rfl
@[simp] theorem setHblankFlag_draws (b : Bool) (s : State) : (setHblankFlag b s).draws = s.draws := rfl
@[simp] theorem setHblankFlag_params (b : Bool) (s : State) : (setHblankFlag b s).params = s.params := rfl

/-! ## setVblankFlag -/

@[simp] theorem setVblankFlag_sched (b : Bool) (s : State) : (setVblankFlag b s).sched = s.sched := rfl
@[simp] theorem setVblankFlag_ppu (b : Bool) (s : State) : (setVblankFlag b s).ppu = s.ppu := rfl
@[simp] theorem setVblankFlag_dispcnt (b : Bool) (s : State) : (setVblankFlag b s).dispcnt = s.dispcnt := rfl
@[simp] theorem setVblankFlag_dispstat (b : Bool) (s : State) : (setVblankFlag b s).dispstat = { s.dispstat with vblankFlag := b } := rfl
@[simp] theorem setVblankFlag_bgcnt (b : Bool) (s : State) : (setVblankFlag b s).bgcnt = s.bgcnt := rfl
@[simp] theorem setVblankFlag_bghofs (b : Bool) (s : State) : (setVblankFlag b s).bghofs = s.bghofs := rfl
@[simp] theorem setVblankFlag_bgvofs (b : Bool) (s : State) : (setVblankFlag b s).bgvofs = s.bgvofs := rfl
@[simp] theorem setVblankFlag_winh (b : Bool) (s : State) : (setVblankFlag b s).winh = s.winh := rfl
@[simp] theorem setVblankFlag_winv (b : Bool) (s : State) : (setVblankFlag b s).winv = s.winv := rfl
@[simp] theorem setVblankFlag_winin (b : Bool) (s : State) : (setVblankFlag b s).winin = s.winin := rfl
@[simp] theorem setVblankFlag_winout (b : Bool) (s : State) : (setVblankFlag b s).winout = s.winout := rfl
@[simp] theorem setVblankFlag_mosaic (b : Bool) (s : State) : (setVblankFlag b s).mosaic = s.mosaic := rfl
@[simp] theorem setVblankFlag_bldcnt (b : Bool) (s : State) : (setVblankFlag b s).bldcnt = s.bldcnt := rfl
@[simp] theorem setVblankFlag_eva (b : Bool) (s : State) : (setVblankFlag b s).eva = s.eva := rfl
@[simp] theorem setVblankFlag_evb (b : Bool) (s : State) : (setVblankFlag b s).evb = s.evb := rfl
@[simp] theorem setVblankFlag_evy (b : Bool) (s : State) : (setVblankFlag b s).evy = s.evy := rfl
@[simp] theorem setVblankFlag_bgpa (b : Bool) (s : State) : (setVblankFlag b s).bgpa = s.bgpa := rfl
@[simp] theorem setVblankFlag_bgpb (b : Bool) (s : State) : (setVblankFlag b s).bgpb = s.bgpb := rfl
@[simp] theorem setVblankFlag_bgpc (b : Bool) (s : State) : (setVblankFlag b s).bgpc = s.bgpc := rfl
@[simp] theorem setVblankFlag_bgpd (b : Bool) (s : State) : (setVblankFlag b s).bgpd = s.bgpd := rfl
@[simp] theorem setVblankFlag_bgx (b : Bool) (s : State) : (setVblankFlag b s).bgx = s.bgx := rfl
@[simp] theorem setVblankFlag_bgy (b : Bool) (s : State) : (setVblankFlag b s).bgy = s.bgy := rfl
@[simp] theorem setVblankFlag_pram (b : Bool) (s : State) : (setVblankFlag b s).pram = s.pram := rfl
@[simp] theorem setVblankFlag_oam (b : Bool) (s : State) : (setVblankFlag b s).oam = s.oam := rfl
@[simp] theorem setVblankFlag_vram (b : Bool) (s : State) : (setVblankFlag b s).vram = s.vram := rfl
@[simp] theorem setVblankFlag_frame (b : Bool) (s : State) : (setVblankFlag b s).frame = s.frame := rfl
@[simp] theorem setVblankFlag_tm (b : Bool) (s : State) : (setVblankFlag b s).tm = s.tm := rfl
@[simp] theorem setVblankFlag_fault (b : Bool) (s : State) : (setVblankFlag b s).fault = s.fault := rfl
@[simp] theorem setVblankFlag_out (b : Bool) (s : State) : (setVblankFlag b s).out = s.out := rfl
@[simp] theorem setVblankFlag_input (b : Bool) (s : State) : (setVblankFlag b s).input = s.input := rfl
@[simp] theorem setVblankFlag_readout (b : Bool) (s : State) : (setVblankFlag b s).readout = s.readout := rfl
@[simp] theorem setVblankFlag_draws (b : Bool) (s : State) : (setVblankFlag b s).draws = s.draws := rfl
@[simp] theorem setVblankFlag_params (b : Bool) (s : State) : (setVblankFlag b s).params = s.params := rfl

/-! ## setTimer -/

@[simp] theorem setTimer_sched (k : Ix4) (t : Timer) (s : State) : (setTimer k t s).sched = s.sched := rfl
@[simp] theorem setTimer_ppu (k : Ix4) (t : Timer) (s : State) : (setTimer k t s).ppu = s.ppu := rfl
@[simp] theorem setTimer_dispcnt (k : Ix4) (t : Timer) (s : State) : (setTimer k t s).dispcnt = s.dispcnt := rfl
@[simp] theorem setTimer_dispstat (k : Ix4) (t : Timer) (s : State) : (setTimer k t s).dispstat = s.dispstat := rfl
@[simp] theorem setTimer_bgcnt (k : Ix4) (t : Timer) (s : State) : (setTimer k t s).bgcnt = s.bgcnt := rfl
@[simp] theorem setTimer_bghofs (k : Ix4) (t : Timer) (s : State) : (setTimer k t s).bghofs = s.bghofs := rfl
@[simp] theorem setTimer_bgvofs (k : Ix4) (t : Timer) (s : State) : (setTimer k t s).bgvofs = s.bgvofs := rfl
@[simp] theorem setTimer_winh (k : Ix4) (t : Timer) (s : State) : (setTimer k t s).winh = s.winh := rfl
@[simp] theorem setTimer_winv (k : Ix4) (t : Timer) (s : State) : (setTimer k t s).winv = s.winv := rfl
@[simp] theorem setTimer_winin (k : Ix4) (t : Timer) (s : State) : (setTimer k t s).winin = s.winin := rfl
@[simp] theorem setTimer_winout (k : Ix4) (t : Timer) (s : State) : (setTimer k t s).winout = s.winout := rfl
@[simp] theorem setTimer_mosaic (k : Ix4) (t : Timer) (s : State) : (setTimer k t s).mosaic = s.mosaic := rfl
@[simp] theorem setTimer_bldcnt (k : Ix4) (t : Timer) (s : State) : (setTimer k t s).bldcnt = s.bldcnt := rfl
@[simp] theorem setTimer_eva (k : Ix4) (t : Timer) (s : State) : (setTimer k t s).eva = s.eva := rfl
@[simp] theorem setTimer_evb (k : Ix4) (t : Timer) (s : State) : (setTimer k t s).evb = s.evb := rfl
@[simp] theorem setTimer_evy (k : Ix4) (t : Timer) (s : State) : (setTimer k t s).evy = s.evy := rfl
@[simp] theorem setTimer_bgpa (k : Ix4) (t : Timer) (s : State) : (setTimer k t s).bgpa = s.bgpa := rfl
@[simp] theorem setTimer_bgpb (k : Ix4) (t : Timer) (s : State) : (setTimer k t s).bgpb = s.bgpb := rfl
@[simp] theorem setTimer_bgpc (k : Ix4) (t : Timer) (s : State) : (setTimer k t s).bgpc = s.bgpc := rfl
@[simp] theorem setTimer_bgpd (k : Ix4) (t : Timer) (s : State) : (setTimer k t s).bgpd = s.bgpd := rfl
@[simp] theorem setTimer_bgx (k : Ix4) (t : Timer) (s : State) : (setTimer k t s).bgx = s.bgx := rfl
@[simp] theorem setTimer_bgy (k : Ix4) (t : Timer) (s : State) : (setTimer k t s).bgy = s.bgy := rfl
@[simp] theorem setTimer_pram (k : Ix4) (t : Timer) (s : State) : (setTimer k t s).pram = s.pram := rfl
@[simp] theorem setTimer_oam (k : Ix4) (t : Timer) (s : State) : (setTimer k t s).oam = s.oam := rfl
@[simp] theorem setTimer_vram (k : Ix4) (t : Timer) (s : State) : (setTimer k t s).vram = s.vram := rfl
@[simp] theorem setTimer_frame (k : Ix4) (t : Timer) (s : State) : (setTimer k t s).frame = s.frame := rfl
@[simp] theorem setTimer_tm (k : Ix4) (t : Timer) (s : State) : (setTimer k t s).tm = s.tm.set k t := rfl
@[simp] theorem setTimer_fault (k : Ix4) (t : Timer) (s : State) : (setTimer k t s).fault = s.fault := rfl
@[simp] theorem setTimer_out (k : Ix4) (t : Timer) (s : State) : (setTimer k t s).out = s.out := rfl
@[simp] theorem setTimer_input (k : Ix4) (t : Timer) (s : State) : (setTimer k t s).input = s.input := rfl
@[simp] theorem setTimer_readout (k : Ix4) (t : Timer) (s : State) : (setTimer k t s).readout = s.readout := rfl
@[simp] theorem setTimer_draws (k : Ix4) (t : Timer) (s : State) : (setTimer k t s).draws = s.draws := rfl
@[simp] theorem setTimer_params (k : Ix4) (t : Timer) (s : State) : (setTimer k t s).params = s.params := rfl

/-! ## writeRow -/

@[simp] theorem writeRow_sched (y : Nat) (row : List Pixel) (s : State) : (writeRow y row s).sched = s.sched := rfl
@[simp] theorem writeRow_ppu (y : Nat) (row : List Pixel) (s : State) : (writeRow y row s).ppu = s.ppu := rfl
@[simp] theorem writeRow_dispcnt (y : Nat) (row : List Pixel) (s : State) : (writeRow y row s).dispcnt = s.dispcnt := rfl
@[simp] theorem writeRow_dispstat (y : Nat) (row : List Pixel) (s : State) : (writeRow y row s).dispstat = s.dispstat := rfl
@[simp] theorem writeRow_bgcnt (y : Nat) (row : List Pixel) (s : State) : (writeRow y row s).bgcnt = s.bgcnt := rfl
@[simp] theorem writeRow_bghofs (y : Nat) (row : List Pixel) (s : State) : (writeRow y row s).bghofs = s.bghofs := rfl
@[simp] theorem writeRow_bgvofs (y : Nat) (row : List Pixel) (s : State) : (writeRow y row s).bgvofs = s.bgvofs := rfl
@[simp] theorem writeRow_winh (y : Nat) (row : List Pixel) (s : State) : (writeRow y row s).winh = s.winh := rfl
@[simp] theorem writeRow_winv (y : Nat) (row : List Pixel) (s : State) : (writeRow y row s).winv = s.winv := rfl
@[simp] theorem writeRow_winin (y : Nat) (row : List Pixel) (s : State) : (writeRow y row s).winin = s.winin := rfl
@[simp] theorem writeRow_winout (y : Nat) (row : List Pixel) (s : State) : (writeRow y row s).winout = s.winout := rfl
@[simp] theorem writeRow_mosaic (y : Nat) (row : List Pixel) (s : State) : (writeRow y row s).mosaic = s.mosaic := rfl
@[simp] theorem writeRow_bldcnt (y : Nat) (row : List Pixel) (s : State) : (writeRow y row s).bldcnt = s.bldcnt := rfl
@[simp] theorem writeRow_eva (y : Nat) (row : List Pixel) (s : State) : (writeRow y row s).eva = s.eva := rfl
@[simp] theorem writeRow_evb (y : Nat) (row : List Pixel) (s : State) : (writeRow y row s).evb = s.evb := rfl
@[simp] theorem writeRow_evy (y : Nat) (row : List Pixel) (s : State) : (writeRow y row s).evy = s.evy := rfl
@[simp] theorem writeRow_bgpa (y : Nat) (row : List Pixel) (s : State) : (writeRow y row s).bgpa = s.bgpa := rfl
@[simp] theorem writeRow_bgpb (y : Nat) (row : List Pixel) (s : State) : (writeRow y row s).bgpb = s.bgpb := rfl
@[simp] theorem writeRow_bgpc (y : Nat) (row : List Pixel) (s : State) : (writeRow y row s).bgpc = s.bgpc := rfl
@[simp] theorem writeRow_bgpd (y : Nat) (row : List Pixel) (s : State) : (writeRow y row s).bgpd = s.bgpd := rfl
@[simp] theorem writeRow_bgx (y : Nat) (row : List Pixel) (s : State) : (writeRow y row s).bgx = s.bgx := rfl
@[simp] theorem writeRow_bgy (y : Nat) (row : List Pixel) (s : State) : (writeRow y row s).bgy = s.bgy := rfl
@[simp] theorem writeRow_pram (y : Nat) (row : List Pixel) (s : State) : (writeRow y row s).pram = s.pram := rfl
@[simp] theorem writeRow_oam (y : Nat) (row : List Pixel) (s : State) : (writeRow y row s).oam = s.oam := rfl
@[simp] theorem writeRow_vram (y : Nat) (row : List Pixel) (s : State) : (writeRow y row s).vram = s.vram := rfl
@[simp] theorem writeRow_frame (y : Nat) (row : List Pixel) (s : State) : (writeRow y row s).frame = setKey s.frame y row := rfl
@[simp] theorem writeRow_tm (y : Nat) (row : List Pixel) (s : State) : (writeRow y row s).tm = s.tm := rfl
@[simp] theorem writeRow_fault (y : Nat) (row : List Pixel) (s : State) : (writeRow y row s).fault = s.fault := rfl
@[simp] theorem writeRow_out (y : Nat) (row : List Pixel) (s : State) : (writeRow y row s).out = s.out := rfl
@[simp] theorem writeRow_input (y : Nat) (row : List Pixel) (s : State) : (writeRow y row s).input = s.input := rfl
@[simp] theorem writeRow_readout (y : Nat) (row : List Pixel) (s : State) : (writeRow y row s).readout = s.readout := rfl
@[simp] theorem writeRow_draws (y : Nat) (row : List Pixel) (s : State) : (writeRow y row s).draws = s.draws := rfl
@[simp] theorem writeRow_params (y : Nat) (row : List Pixel) (s : State) : (writeRow y row s).params = s.params := rfl

/-! ## advanceMosaic -/

@[simp] theorem advanceMosaic_sched (s : State) : (advanceMosaic s).sched = s.sched := rfl
@[simp] theorem advanceMosaic_ppu (s : State) : (advanceMosaic s).ppu = s.ppu := rfl
@[simp] theorem advanceMosaic_dispcnt (s : State) : (advanceMosaic s).dispcnt = s.dispcnt := rfl
@[simp] theorem advanceMosaic_dispstat (s : State) : (advanceMosaic s).dispstat = s.dispstat := rfl
@[simp] theorem advanceMosaic_bgcnt (s : State) : (advanceMosaic s).bgcnt = s.bgcnt := rfl
@[simp] theorem advanceMosaic_bghofs (s : State) : (advanceMosaic s).bghofs = s.bghofs := rfl
@[simp] theorem advanceMosaic_bgvofs (s : State) : (advanceMosaic s).bgvofs = s.bgvofs := rfl
@[simp] theorem advanceMosaic_winh (s : State) : (advanceMosaic s).winh = s.winh := rfl
@[simp] theorem advanceMosaic_winv (s : State) : (advanceMosaic s).winv = s.winv := rfl
@[simp] theorem advanceMosaic_winin (s : State) : (advanceMosaic s).winin = s.winin := rfl
@[simp] theorem advanceMosaic_winout (s : State) : (advanceMosaic s).winout = s.winout := rfl
@[simp] theorem advanceMosaic_mosaic (s : State) : (advanceMosaic s).mosaic = ⟨s.mosaic.bg.advance, s.mosaic.obj.advance⟩ := rfl
@[simp] theorem advanceMosaic_bldcnt (s : State) : (advanceMosaic s).bldcnt = s.bldcnt := rfl
@[simp] theorem advanceMosaic_eva (s : State) : (advanceMosaic s).eva = s.eva := rfl
@[simp] theorem advanceMosaic_evb (s : State) : (advanceMosaic s).evb = s.evb := rfl
@[simp] theorem advanceMosaic_evy (s : State) : (advanceMosaic s).evy = s.evy := rfl
@[simp] theorem advanceMosaic_bgpa (s : State) : (advanceMosaic s).bgpa = s.bgpa := rfl
@[simp] theorem advanceMosaic_bgpb (s : State) : (advanceMosaic s).bgpb = s.bgpb := rfl
@[simp] theorem advanceMosaic_bgpc (s : State) : (advanceMosaic s).bgpc = s.bgpc := rfl
@[simp] theorem advanceMosaic_bgpd (s : State) : (advanceMosaic s).bgpd = s.bgpd := rfl
@[simp] theorem advanceMosaic_bgx (s : State) : (advanceMosaic s).bgx = s.bgx := rfl
@[simp] theorem advanceMosaic_bgy (s : State) : (advanceMosaic s).bgy = s.bgy := rfl
@[simp] theorem advanceMosaic_pram (s : State) : (advanceMosaic s).pram = s.pram := rfl
@[simp] theorem advanceMosaic_oam (s : State) : (advanceMosaic s).oam = s.oam := rfl
@[simp] theorem advanceMosaic_vram (s : State) : (advanceMosaic s).vram = s.vram := rfl
@[simp] theorem advanceMosaic_frame (s : State) : (advanceMosaic s).frame = s.frame := rfl
@[simp] theorem advanceMosaic_tm (s : State) : (advanceMosaic s).tm = s.tm := rfl
@[simp] theorem advanceMosaic_fault (s : State) : (advanceMosaic s).fault = s.fault := rfl
@[simp] theorem advanceMosaic_out (s : State) : (advanceMosaic s).out = s.out := rfl
@[simp] theorem advanceMosaic_input (s : State) : (advanceMosaic s).input = s.input := rfl
@[simp] theorem advanceMosaic_readout (s : State) : (advanceMosaic s).readout = s.readout := rfl
@[simp] theorem advanceMosaic_draws (s : State) : (advanceMosaic s).draws = s.draws := rfl
@[simp] theorem advanceMosaic_params (s : State) : (advanceMosaic s).params = s.params := rfl

/-! ## clearMosaic -/

@[simp] theorem clearMosaic_sched (s : State) : (clearMosaic s).sched = s.sched := rfl
@[simp] theorem clearMosaic_ppu (s : State) : (clearMosaic s).ppu = s.ppu := rfl
@[simp] theorem clearMosaic_dispcnt (s : State) : (clearMosaic s).dispcnt = s.dispcnt := rfl
@[simp] theorem clearMosaic_dispstat (s : State) : (clearMosaic s).dispstat = s.dispstat := rfl
@[simp] theorem clearMosaic_bgcnt (s : State) : (clearMosaic s).bgcnt = s.bgcnt := rfl
@[simp] theorem clearMosaic_bghofs (s : State) : (clearMosaic s).bghofs = s.bghofs := rfl
@[simp] theorem clearMosaic_bgvofs (s : State) : (clearMosaic s).bgvofs = s.bgvofs := rfl
@[simp] theorem clearMosaic_winh (s : State) : (clearMosaic s).winh = s.winh := rfl
@[simp] theorem clearMosaic_winv (s : State) : (clearMosaic s).winv = s.winv := rfl
@[simp] theorem clearMosaic_winin (s : State) : (clearMosaic s).winin = s.winin := rfl
@[simp] theorem clearMosaic_winout (s : State) : (clearMosaic s).winout = s.winout := rfl
@[simp] theorem clearMosaic_mosaic (s : State) : (clearMosaic s).mosaic = ⟨{ s.mosaic.bg with counterY := 0 }, { s.mosaic.obj with counterY := 0 }⟩ := rfl
@[simp] theorem clearMosaic_bldcnt (s : State) : (clearMosaic s).bldcnt = s.bldcnt := rfl
@[simp] theorem clearMosaic_eva (s : State) : (clearMosaic s).eva = s.eva := rfl
@[simp] theorem clearMosaic_evb (s : State) : (clearMosaic s).evb = s.evb := rfl
@[simp] theorem clearMosaic_evy (s : State) : (clearMosaic s).evy = s.evy := rfl
@[simp] theorem clearMosaic_bgpa (s : State) : (clearMosaic s).bgpa = s.bgpa := rfl
@[simp] theorem clearMosaic_bgpb (s : State) : (clearMosaic s).bgpb = s.bgpb := rfl
@[simp] theorem clearMosaic_bgpc (s : State) : (clearMosaic s).bgpc = s.bgpc := rfl
@[simp] theorem clearMosaic_bgpd (s : State) : (clearMosaic s).bgpd = s.bgpd := rfl
@[simp] theorem clearMosaic_bgx (s : State) : (clearMosaic s).bgx = s.bgx := rfl
@[simp] theorem clearMosaic_bgy (s : State) : (clearMosaic s).bgy = s.bgy := rfl
@[simp] theorem clearMosaic_pram (s : State) : (clearMosaic s).pram = s.pram := rfl
@[simp] theorem clearMosaic_oam (s : State) : (clearMosaic s).oam = s.oam := rfl
@[simp] theorem clearMosaic_vram (s : State) : (clearMosaic s).vram = s.vram := rfl
@[simp] theorem clearMosaic_frame (s : State) : (clearMosaic s).frame = s.frame := rfl
@[simp] theorem clearMosaic_tm (s : State) : (clearMosaic s).tm = s.tm := rfl
@[simp] theorem clearMosaic_fault (s : State) : (clearMosaic s).fault = s.fault := rfl
@[simp] theorem clearMosaic_out (s : State) : (clearMosaic s).out = s.out := rfl
@[simp] theorem clearMosaic_input (s : State) : (clearMosaic s).input = s.input := rfl
@[simp] theorem clearMosaic_readout (s : State) : (clearMosaic s).readout = s.readout := rfl
@[simp] theorem clearMosaic_draws (s : State) : (clearMosaic s).draws = s.draws := rfl
@[simp] theorem clearMosaic_params (s : State) : (clearMosaic s).params = s.params := rfl

/-! ## reloadAffine -/

@[simp] theorem reloadAffine_sched (s : State) : (reloadAffine s).sched = s.sched := rfl
@[simp] theorem reloadAffine_ppu (s : State) : (reloadAffine s).ppu = s.ppu := rfl
@[simp] theorem reloadAffine_dispcnt (s : State) : (reloadAffine s).dispcnt = s.dispcnt := rfl
@[simp] theorem reloadAffine_dispstat (s : State) : (reloadAffine s).dispstat = s.dispstat := rfl
@[simp] theorem reloadAffine_bgcnt (s : State) : (reloadAffine s).bgcnt = s.bgcnt := rfl
@[simp] theorem reloadAffine_bghofs (s : State) : (reloadAffine s).bghofs = s.bghofs := rfl
@[simp] theorem reloadAffine_bgvofs (s : State) : (reloadAffine s).bgvofs = s.bgvofs := rfl
@[simp] theorem reloadAffine_winh (s : State) : (reloadAffine s).winh = s.winh := rfl
@[simp] theorem reloadAffine_winv (s : State) : (reloadAffine s).winv = s.winv := rfl
@[simp] theorem reloadAffine_winin (s : State) : (reloadAffine s).winin = s.winin := rfl
@[simp] theorem reloadAffine_winout (s : State) : (reloadAffine s).winout = s.winout := rfl
@[simp] theorem reloadAffine_mosaic (s : State) : (reloadAffine s).mosaic = s.mosaic := rfl
@[simp] theorem reloadAffine_bldcnt (s : State) : (reloadAffine s).bldcnt = s.bldcnt := rfl
@[simp] theorem reloadAffine_eva (s : State) : (reloadAffine s).eva = s.eva := rfl
@[simp] theorem reloadAffine_evb (s : State) : (reloadAffine s).evb = s.evb := rfl
@[simp] theorem reloadAffine_evy (s : State) : (reloadAffine s).evy = s.evy := rfl
@[simp] theorem reloadAffine_bgpa (s : State) : (reloadAffine s).bgpa = s.bgpa := rfl
@[simp] theorem reloadAffine_bgpb (s : State) : (reloadAffine s).bgpb = s.bgpb := rfl
@[simp] theorem reloadAffine_bgpc (s : State) : (reloadAffine s).bgpc = s.bgpc := rfl
@[simp] theorem reloadAffine_bgpd (s : State) : (reloadAffine s).bgpd = s.bgpd := rfl
@[simp] theorem reloadAffine_bgx (s : State) : (reloadAffine s).bgx = ⟨s.bgx.e0.reload, s.bgx.e1.reload⟩ := rfl
@[simp] theorem reloadAffine_bgy (s : State) : (reloadAffine s).bgy = ⟨s.bgy.e0.reload, s.bgy.e1.reload⟩ := rfl
@[simp] theorem reloadAffine_pram (s : State) : (reloadAffine s).pram = s.pram := rfl
@[simp] theorem reloadAffine_oam (s : State) : (reloadAffine s).oam = s.oam := rfl
@[simp] theorem reloadAffine_vram (s : State) : (reloadAffine s).vram = s.vram := rfl
@[simp] theorem reloadAffine_frame (s : State) : (reloadAffine s).frame = s.frame := rfl
@[simp] theorem reloadAffine_tm (s : State) : (reloadAffine s).tm = s.tm := rfl
@[simp] theorem reloadAffine_fault (s : State) : (reloadAffine s).fault = s.fault := rfl
@[simp] theorem reloadAffine_out (s : State) : (reloadAffine s).out = s.out := rfl
@[simp] theorem reloadAffine_input (s : State) : (reloadAffine s).input = s.input := rfl
@[simp] theorem reloadAffine_readout (s : State) : (reloadAffine s).readout = s.readout := rfl
@[simp] theorem reloadAffine_draws (s : State) : (reloadAffine s).draws = s.draws := rfl
@[simp] theorem reloadAffine_params (s : State) : (reloadAffine s).params = s.params := rfl

/-! ## drawByte -/

@[simp] theorem drawByte_sched (s : State) : (drawByte s).2.sched = s.sched := rfl
@[simp] theorem drawByte_ppu (s : State) : (drawByte s).2.ppu = s.ppu := rfl
@[simp] theorem drawByte_dispcnt (s : State) : (drawByte s).2.dispcnt = s.dispcnt := rfl
@[simp] theorem drawByte_dispstat (s : State) : (drawByte s).2.dispstat = s.dispstat := rfl
@[simp] theorem drawByte_bgcnt (s : State) : (drawByte s).2.bgcnt = s.bgcnt := rfl
@[simp] theorem drawByte_bghofs (s : State) : (drawByte s).2.bghofs = s.bghofs := rfl
@[simp] theorem drawByte_bgvofs (s : State) : (drawByte s).2.bgvofs = s.bgvofs := rfl
@[simp] theorem drawByte_winh (s : State) : (drawByte s).2.winh = s.winh := rfl
@[simp] theorem drawByte_winv (s : State) : (drawByte s).2.winv = s.winv := rfl
@[simp] theorem drawByte_winin (s : State) : (drawByte s).2.winin = s.winin := rfl
@[simp] theorem drawByte_winout (s : State) : (drawByte s).2.winout = s.winout := rfl
@[simp] theorem drawByte_mosaic (s : State) : (drawByte s).2.mosaic = s.mosaic := rfl
@[simp] theorem drawByte_bldcnt (s : State) : (drawByte s).2.bldcnt = s.bldcnt := rfl
@[simp] theorem drawByte_eva (s : State) : (drawByte s).2.eva = s.eva := rfl
@[simp] theorem drawByte_evb (s : State) : (drawByte s).2.evb = s.evb := rfl
@[simp] theorem drawByte_evy (s : State) : (drawByte s).2.evy = s.evy := rfl
@[simp] theorem drawByte_bgpa (s : State) : (drawByte s).2.bgpa = s.bgpa := rfl
@[simp] theorem drawByte_bgpb (s : State) : (drawByte s).2.bgpb = s.bgpb := rfl
@[simp] theorem drawByte_bgpc (s : State) : (drawByte s).2.bgpc = s.bgpc := rfl
@[simp] theorem drawByte_bgpd (s : State) : (drawByte s).2.bgpd = s.bgpd := rfl
@[simp] theorem drawByte_bgx (s : State) : (drawByte s).2.bgx = s.bgx := rfl
@[simp] theorem drawByte_bgy (s : State) : (drawByte s).2.bgy = s.bgy := rfl
@[simp] theorem drawByte_pram (s : State) : (drawByte s).2.pram = s.pram := rfl
@[simp] theorem drawByte_oam (s : State) : (drawByte s).2.oam = s.oam := rfl
@[simp] theorem drawByte_vram (s : State) : (drawByte s).2.vram = s.vram := rfl
@[simp] theorem drawByte_frame (s : State) : (drawByte s).2.frame = s.frame := rfl
@[simp] theorem drawByte_tm (s : State) : (drawByte s).2.tm = s.tm := rfl
@[simp] theorem drawByte_fault (s : State) : (drawByte s).2.fault = s.fault := rfl
@[simp] theorem drawByte_out (s : State) : (drawByte s).2.out = s.out := rfl
@[simp] theorem drawByte_input (s : State) : (drawByte s).2.input = s.input := rfl
@[simp] theorem drawByte_readout (s : State) : (drawByte s).2.readout = s.readout := rfl
@[simp] theorem drawByte_draws (s : State) : (drawByte s).2.draws = s.draws + 1 := rfl
@[simp] theorem drawByte_params (s : State) : (drawByte s).2.params = s.params := rfl

/-! ## drawRow -/

@[simp] theorem drawRow_sched (s : State) : (drawRow s).2.sched = s.sched := rfl
@[simp] theorem drawRow_ppu (s : State) : (drawRow s).2.ppu = s.ppu := rfl
@[simp] theorem drawRow_dispcnt (s : State) : (drawRow s).2.dispcnt = s.dispcnt := rfl
@[simp] theorem drawRow_dispstat (s : State) : (drawRow s).2.dispstat = s.dispstat := rfl
@[simp] theorem drawRow_bgcnt (s : State) : (drawRow s).2.bgcnt = s.bgcnt := rfl
@[simp] theorem drawRow_bghofs (s : State) : (drawRow s).2.bghofs = s.bghofs := rfl
@[simp] theorem drawRow_bgvofs (s : State) : (drawRow s).2.bgvofs = s.bgvofs := rfl
@[simp] theorem drawRow_winh (s : State) : (drawRow s).2.winh = s.winh := rfl
@[simp] theorem drawRow_winv (s : State) : (drawRow s).2.winv = s.winv := rfl
@[simp] theorem drawRow_winin (s : State) : (drawRow s).2.winin = s.winin := rfl
@[simp] theorem drawRow_winout (s : State) : (drawRow s).2.winout = s.winout := rfl
@[simp] theorem drawRow_mosaic (s : State) : (drawRow s).2.mosaic = s.mosaic := rfl
@[simp] theorem drawRow_bldcnt (s : State) : (drawRow s).2.bldcnt = s.bldcnt := rfl
@[simp] theorem drawRow_eva (s : State) : (drawRow s).2.eva = s.eva := rfl
@[simp] theorem drawRow_evb (s : State) : (drawRow s).2.evb = s.evb := rfl
@[simp] theorem drawRow_evy (s : State) : (drawRow s).2.evy = s.evy := rfl
@[simp] theorem drawRow_bgpa (s : State) : (drawRow s).2.bgpa = s.bgpa := rfl
@[simp] theorem drawRow_bgpb (s : State) : (drawRow s).2.bgpb = s.bgpb := rfl
@[simp] theorem drawRow_bgpc (s : State) : (drawRow s).2.bgpc = s.bgpc := rfl
@[simp] theorem drawRow_bgpd (s : State) : (drawRow s).2.bgpd = s.bgpd := rfl
@[simp] theorem drawRow_bgx (s : State) : (drawRow s).2.bgx = s.bgx := rfl
@[simp] theorem drawRow_bgy (s : State) : (drawRow s).2.bgy = s.bgy := rfl
@[simp] theorem drawRow_pram (s : State) : (drawRow s).2.pram = s.pram := rfl
@[simp] theorem drawRow_oam (s : State) : (drawRow s).2.oam = s.oam := rfl
@[simp] theorem drawRow_vram (s : State) : (drawRow s).2.vram = s.vram := rfl
@[simp] theorem drawRow_frame (s : State) : (drawRow s).2.frame = s.frame := rfl
@[simp] theorem drawRow_tm (s : State) : (drawRow s).2.tm = s.tm := rfl
@[simp] theorem drawRow_fault (s : State) : (drawRow s).2.fault = s.fault := rfl
@[simp] theorem drawRow_out (s : State) : (drawRow s).2.out = s.out := rfl
@[simp] theorem drawRow_input (s : State) : (drawRow s).2.input = s.input := rfl
@[simp] theorem drawRow_readout (s : State) : (drawRow s).2.readout = s.readout := rfl
@[simp] theorem drawRow_draws (s : State) : (drawRow s).2.draws = s.draws + 240 := rfl
@[simp] theorem drawRow_params (s : State) : (drawRow s).2.params = s.params := rfl

/-! ## raiseFault -/

@[simp] theorem raiseFault_sched (c : FaultCode) (s : State) : (raiseFault c s).sched = s.sched := by cases h : s.fault <;> simp [raiseFault, h]
@[simp] theorem raiseFault_ppu (c : FaultCode) (s : State) : (raiseFault c s).ppu = s.ppu := by cases h : s.fault <;> simp [raiseFault, h]
@[simp] theorem raiseFault_dispcnt (c : FaultCode) (s : State) : (raiseFault c s).dispcnt = s.dispcnt := by cases h : s.fault <;> simp [raiseFault, h]
@[simp] theorem raiseFault_dispstat (c : FaultCode) (s : State) : (raiseFault c s).dispstat = s.dispstat := by cases h : s.fault <;> simp [raiseFault, h]
@[simp] theorem raiseFault_bgcnt (c : FaultCode) (s : State) : (raiseFault c s).bgcnt = s.bgcnt := by cases h : s.fault <;> simp [raiseFault, h]
@[simp] theorem raiseFault_bghofs (c : FaultCode) (s : State) : (raiseFault c s).bghofs = s.bghofs := by cases h : s.fault <;> simp [raiseFault, h]
@[simp] theorem raiseFault_bgvofs (c : FaultCode) (s : State) : (raiseFault c s).bgvofs = s.bgvofs := by cases h : s.fault <;> simp [raiseFault, h]
@[simp] theorem raiseFault_winh (c : FaultCode) (s : State) : (raiseFault c s).winh = s.winh := by cases h : s.fault <;> simp [raiseFault, h]
@[simp] theorem raiseFault_winv (c : FaultCode) (s : State) : (raiseFault c s).winv = s.winv := by cases h : s.fault <;> simp [raiseFault, h]
@[simp] theorem raiseFault_winin (c : FaultCode) (s : State) : (raiseFault c s).winin = s.winin := by cases h : s.fault <;> simp [raiseFault, h]
@[simp] theorem raiseFault_winout (c : FaultCode) (s : State) : (raiseFault c s).winout = s.winout := by cases h : s.fault <;> simp [raiseFault, h]
@[simp] theorem raiseFault_mosaic (c : FaultCode) (s : State) : (raiseFault c s).mosaic = s.mosaic := by cases h : s.fault <;> simp [raiseFault, h]
@[simp] theorem raiseFault_bldcnt (c : FaultCode) (s : State) : (raiseFault c s).bldcnt = s.bldcnt := by cases h : s.fault <;> simp [raiseFault, h]
@[simp] theorem raiseFault_eva (c : FaultCode) (s : State) : (raiseFault c s).eva = s.eva := by cases h : s.fault <;> simp [raiseFault, h]
@[simp] theorem raiseFault_evb (c : FaultCode) (s : State) : (raiseFault c s).evb = s.evb := by cases h : s.fault <;> simp [raiseFault, h]
@[simp] theorem raiseFault_evy (c : FaultCode) (s : State) : (raiseFault c s).evy = s.evy := by cases h : s.fault <;> simp [raiseFault, h]
@[simp] theorem raiseFault_bgpa (c : FaultCode) (s : State) : (raiseFault c s).bgpa = s.bgpa := by cases h : s.fault <;> simp [raiseFault, h]
@[simp] theorem raiseFault_bgpb (c : FaultCode) (s : State) : (raiseFault c s).bgpb = s.bgpb := by cases h : s.fault <;> simp [raiseFault, h]
@[simp] theorem raiseFault_bgpc (c : FaultCode) (s : State) : (raiseFault c s).bgpc = s.bgpc := by cases h : s.fault <;> simp [raiseFault, h]
@[simp] theorem raiseFault_bgpd (c : FaultCode) (s : State) : (raiseFault c s).bgpd = s.bgpd := by cases h : s.fault <;> simp [raiseFault, h]
@[simp] theorem raiseFault_bgx (c : FaultCode) (s : State) : (raiseFault c s).bgx = s.bgx := by cases h : s.fault <;> simp [raiseFault, h]
@[simp] theorem raiseFault_bgy (c : FaultCode) (s : State) : (raiseFault c s).bgy = s.bgy := by cases h : s.fault <;> simp [raiseFault, h]
@[simp] theorem raiseFault_pram (c : FaultCode) (s : State) : (raiseFault c s).pram = s.pram := by cases h : s.fault <;> simp [raiseFault, h]
@[simp] theorem raiseFault_oam (c : FaultCode) (s : State) : (raiseFault c s).oam = s.oam := by cases h : s.fault <;> simp [raiseFault, h]
@[simp] theorem raiseFault_vram (c : FaultCode) (s : State) : (raiseFault c s).vram = s.vram := by cases h : s.fault <;> simp [raiseFault, h]
@[simp] theorem raiseFault_frame (c : FaultCode) (s : State) : (raiseFault c s).frame = s.frame := by cases h : s.fault <;> simp [raiseFault, h]
@[simp] theorem raiseFault_tm (c : FaultCode) (s : State) : (raiseFault c s).tm = s.tm := by cases h : s.fault <;> simp [raiseFault, h]
@[simp] theorem raiseFault_fault (c : FaultCode) (s : State) : (raiseFault c s).fault = some (s.fault.getD c) := by cases h : s.fault <;> simp [raiseFault, h]
@[simp] theorem raiseFault_out (c : FaultCode) (s : State) : (raiseFault c s).out = s.out := by cases h : s.fault <;> simp [raiseFault, h]
@[simp] theorem raiseFault_input (c : FaultCode) (s : State) : (raiseFault c s).input = s.input := by cases h : s.fault <;> simp [raiseFault, h]
@[simp] theorem raiseFault_readout (c : FaultCode) (s : State) : (raiseFault c s).readout = s.readout := by cases h : s.fault <;> simp [raiseFault, h]
@[simp] theorem raiseFault_draws (c : FaultCode) (s : State) : (raiseFault c s).draws = s.draws := by cases h : s.fault <;> simp [raiseFault, h]
@[simp] theorem raiseFault_params (c : FaultCode) (s : State) : (raiseFault c s).params = s.params := by cases h : s.fault <;> simp [raiseFault, h]

/-! ## raiseIf -/

@[simp] theorem raiseIf_sched (b : Bool) (src : Source) (f : Option Word64) (s : State) : (raiseIf b src f s).sched = s.sched := by cases b <;> simp [raiseIf, emit]
@[simp] theorem raiseIf_ppu (b : Bool) (src : Source) (f : Option Word64) (s : State) : (raiseIf b src f s).ppu = s.ppu := by cases b <;> simp [raiseIf, emit]
@[simp] theorem raiseIf_dispcnt (b : Bool) (src : Source) (f : Option Word64) (s : State) : (raiseIf b src f s).dispcnt = s.dispcnt := by cases b <;> simp [raiseIf, emit]
@[simp] theorem raiseIf_dispstat (b : Bool) (src : Source) (f : Option Word64) (s : State) : (raiseIf b src f s).dispstat = s.dispstat := by cases b <;> simp [raiseIf, emit]
@[simp] theorem raiseIf_bgcnt (b : Bool) (src : Source) (f : Option Word64) (s : State) : (raiseIf b src f s).bgcnt = s.bgcnt := by cases b <;> simp [raiseIf, emit]
@[simp] theorem raiseIf_bghofs (b : Bool) (src : Source) (f : Option Word64) (s : State) : (raiseIf b src f s).bghofs = s.bghofs := by cases b <;> simp [raiseIf, emit]
@[simp] theorem raiseIf_bgvofs (b : Bool) (src : Source) (f : Option Word64) (s : State) : (raiseIf b src f s).bgvofs = s.bgvofs := by cases b <;> simp [raiseIf, emit]
@[simp] theorem raiseIf_winh (b : Bool) (src : Source) (f : Option Word64) (s : State) : (raiseIf b src f s).winh = s.winh := by cases b <;> simp [raiseIf, emit]
@[simp] theorem raiseIf_winv (b : Bool) (src : Source) (f : Option Word64) (s : State) : (raiseIf b src f s).winv = s.winv := by cases b <;> simp [raiseIf, emit]
@[simp] theorem raiseIf_winin (b : Bool) (src : Source) (f : Option Word64) (s : State) : (raiseIf b src f s).winin = s.winin := by cases b <;> simp [raiseIf, emit]
@[simp] theorem raiseIf_winout (b : Bool) (src : Source) (f : Option Word64) (s : State) : (raiseIf b src f s).winout = s.winout := by cases b <;> simp [raiseIf, emit]
@[simp] theorem raiseIf_mosaic (b : Bool) (src : Source) (f : Option Word64) (s : State) : (raiseIf b src f s).mosaic = s.mosaic := by cases b <;> simp [raiseIf, emit]
@[simp] theorem raiseIf_bldcnt (b : Bool) (src : Source) (f : Option Word64) (s : State) : (raiseIf b src f s).bldcnt = s.bldcnt := by cases b <;> simp [raiseIf, emit]
@[simp] theorem raiseIf_eva (b : Bool) (src : Source) (f : Option Word64) (s : State) : (raiseIf b src f s).eva = s.eva := by cases b <;> simp [raiseIf, emit]
@[simp] theorem raiseIf_evb (b : Bool) (src : Source) (f : Option Word64) (s : State) : (raiseIf b src f s).evb = s.evb := by cases b <;> simp [raiseIf, emit]
@[simp] theorem raiseIf_evy (b : Bool) (src : Source) (f : Option Word64) (s : State) : (raiseIf b src f s).evy = s.evy := by cases b <;> simp [raiseIf, emit]
@[simp] theorem raiseIf_bgpa (b : Bool) (src : Source) (f : Option Word64) (s : State) : (raiseIf b src f s).bgpa = s.bgpa := by cases b <;> simp [raiseIf, emit]
@[simp] theorem raiseIf_bgpb (b : Bool) (src : Source) (f : Option Word64) (s : State) : (raiseIf b src f s).bgpb = s.bgpb := by cases b <;> simp [raiseIf, emit]
@[simp] theorem raiseIf_bgpc (b : Bool) (src : Source) (f : Option Word64) (s : State) : (raiseIf b src f s).bgpc = s.bgpc := by cases b <;> simp [raiseIf, emit]
@[simp] theorem raiseIf_bgpd (b : Bool) (src : Source) (f : Option Word64) (s : State) : (raiseIf b src f s).bgpd = s.bgpd := by cases b <;> simp [raiseIf, emit]
@[simp] theorem raiseIf_bgx (b : Bool) (src : Source) (f : Option Word64) (s : State) : (raiseIf b src f s).bgx = s.bgx := by cases b <;> simp [raiseIf, emit]
@[simp] theorem raiseIf_bgy (b : Bool) (src : Source) (f : Option Word64) (s : State) : (raiseIf b src f s).bgy = s.bgy := by cases b <;> simp [raiseIf, emit]
@[simp] theorem raiseIf_pram (b : Bool) (src : Source) (f : Option Word64) (s : State) : (raiseIf b src f s).pram = s.pram := by cases b <;> simp [raiseIf, emit]
@[simp] theorem raiseIf_oam (b : Bool) (src : Source) (f : Option Word64) (s : State) : (raiseIf b src f s).oam = s.oam := by cases b <;> simp [raiseIf, emit]
@[simp] theorem raiseIf_vram (b : Bool) (src : Source) (f : Option Word64) (s : State) : (raiseIf b src f s).vram = s.vram := by cases b <;> simp [raiseIf, emit]
@[simp] theorem raiseIf_frame (b : Bool) (src : Source) (f : Option Word64) (s : State) : (raiseIf b src f s).frame = s.frame := by cases b <;> simp [raiseIf, emit]
@[simp] theorem raiseIf_tm (b : Bool) (src : Source) (f : Option Word64) (s : State) : (raiseIf b src f s).tm = s.tm := by cases b <;> simp [raiseIf, emit]
@[simp] theorem raiseIf_fault (b : Bool) (src : Source) (f : Option Word64) (s : State) : (raiseIf b src f s).fault = s.fault := by cases b <;> simp [raiseIf, emit]
@[simp] theorem raiseIf_out (b : Bool) (src : Source) (f : Option Word64) (s : State) : (raiseIf b src f s).out = s.out ++ if b then [⟨.raise src, s.sched.now, f⟩] else [] := by cases b <;> simp [raiseIf, emit]
@[simp] theorem raiseIf_input (b : Bool) (src : Source) (f : Option Word64) (s : State) : (raiseIf b src f s).input = s.input := by cases b <;> simp [raiseIf, emit]
@[simp] theorem raiseIf_readout (b : Bool) (src : Source) (f : Option Word64) (s : State) : (raiseIf b src f s).readout = s.readout := by cases b <;> simp [raiseIf, emit]
@[simp] theorem raiseIf_draws (b : Bool) (src : Source) (f : Option Word64) (s : State) : (raiseIf b src f s).draws = s.draws := by cases b <;> simp [raiseIf, emit]
@[simp] theorem raiseIf_params (b : Bool) (src : Source) (f : Option Word64) (s : State) : (raiseIf b src f s).params = s.params := by cases b <;> simp [raiseIf, emit]

/-! ## evalVCount -/

@[simp] theorem evalVCount_sched (f : Option Word64) (s : State) : (evalVCount f s).sched = s.sched := by simp [evalVCount]
@[simp] theorem evalVCount_ppu (f : Option Word64) (s : State) : (evalVCount f s).ppu = s.ppu := by simp [evalVCount]
@[simp] theorem evalVCount_dispcnt (f : Option Word64) (s : State) : (evalVCount f s).dispcnt = s.dispcnt := by simp [evalVCount]
@[simp] theorem evalVCount_dispstat (f : Option Word64) (s : State) : (evalVCount f s).dispstat = { s.dispstat with vcountFlag := decide (s.ppu.vcount = s.dispstat.vcountSetting) } := by simp [evalVCount]
@[simp] theorem evalVCount_bgcnt (f : Option Word64) (s : State) : (evalVCount f s).bgcnt = s.bgcnt := by simp [evalVCount]
@[simp] theorem evalVCount_bghofs (f : Option Word64) (s : State) : (evalVCount f s).bghofs = s.bghofs := by simp [evalVCount]
@[simp] theorem evalVCount_bgvofs (f : Option Word64) (s : State) : (evalVCount f s).bgvofs = s.bgvofs := by simp [evalVCount]
@[simp] theorem evalVCount_winh (f : Option Word64) (s : State) : (evalVCount f s).winh = s.winh := by simp [evalVCount]
@[simp] theorem evalVCount_winv (f : Option Word64) (s : State) : (evalVCount f s).winv = s.winv := by simp [evalVCount]
@[simp] theorem evalVCount_winin (f : Option Word64) (s : State) : (evalVCount f s).winin = s.winin := by simp [evalVCount]
@[simp] theorem evalVCount_winout (f : Option Word64) (s : State) : (evalVCount f s).winout = s.winout := by simp [evalVCount]
@[simp] theorem evalVCount_mosaic (f : Option Word64) (s : State) : (evalVCount f s).mosaic = s.mosaic := by simp [evalVCount]
@[simp] theorem evalVCount_bldcnt (f : Option Word64) (s : State) : (evalVCount f s).bldcnt = s.bldcnt := by simp [evalVCount]
@[simp] theorem evalVCount_eva (f : Option Word64) (s : State) : (evalVCount f s).eva = s.eva := by simp [evalVCount]
@[simp] theorem evalVCount_evb (f : Option Word64) (s : State) : (evalVCount f s).evb = s.evb := by simp [evalVCount]
@[simp] theorem evalVCount_evy (f : Option Word64) (s : State) : (evalVCount f s).evy = s.evy := by simp [evalVCount]
@[simp] theorem evalVCount_bgpa (f : Option Word64) (s : State) : (evalVCount f s).bgpa = s.bgpa := by simp [evalVCount]
@[simp] theorem evalVCount_bgpb (f : Option Word64) (s : State) : (evalVCount f s).bgpb = s.bgpb := by simp [evalVCount]
@[simp] theorem evalVCount_bgpc (f : Option Word64) (s : State) : (evalVCount f s).bgpc = s.bgpc := by simp [evalVCount]
@[simp] theorem evalVCount_bgpd (f : Option Word64) (s : State) : (evalVCount f s).bgpd = s.bgpd := by simp [evalVCount]
@[simp] theorem evalVCount_bgx (f : Option Word64) (s : State) : (evalVCount f s).bgx = s.bgx := by simp [evalVCount]
@[simp] theorem evalVCount_bgy (f : Option Word64) (s : State) : (evalVCount f s).bgy = s.bgy := by simp [evalVCount]
@[simp] theorem evalVCount_pram (f : Option Word64) (s : State) : (evalVCount f s).pram = s.pram := by simp [evalVCount]
@[simp] theorem evalVCount_oam (f : Option Word64) (s : State) : (evalVCount f s).oam = s.oam := by simp [evalVCount]
@[simp] theorem evalVCount_vram (f : Option Word64) (s : State) : (evalVCount f s).vram = s.vram := by simp [evalVCount]
@[simp] theorem evalVCount_frame (f : Option Word64) (s : State) : (evalVCount f s).frame = s.frame := by simp [evalVCount]
@[simp] theorem evalVCount_tm (f : Option Word64) (s : State) : (evalVCount f s).tm = s.tm := by simp [evalVCount]
@[simp] theorem evalVCount_fault (f : Option Word64) (s : State) : (evalVCount f s).fault = s.fault := by simp [evalVCount]
@[simp] theorem evalVCount_out (f : Option Word64) (s : State) : (evalVCount f s).out = s.out ++ if s.dispstat.vcountIrqEnable && !s.dispstat.vcountFlag && decide (s.ppu.vcount = s.dispstat.vcountSetting) then [⟨.raise .vcount, s.sched.now, f⟩] else [] := by simp [evalVCount]
@[simp] theorem evalVCount_input (f : Option Word64) (s : State) : (evalVCount f s).input = s.input := by simp [evalVCount]
@[simp] theorem evalVCount_readout (f : Option Word64) (s : State) : (evalVCount f s).readout = s.readout := by simp [evalVCount]
@[simp] theorem evalVCount_draws (f : Option Word64) (s : State) : (evalVCount f s).draws = s.draws := by simp [evalVCount]
@[simp] theorem evalVCount_params (f : Option Word64) (s : State) : (evalVCount f s).params = s.params := by simp [evalVCount]

/-! ## setMem, and the read of a region -/

@[simp] theorem mem_pram (s : State) : s.mem .pram = s.pram := rfl
@[simp] theorem mem_oam (s : State) : s.mem .oam = s.oam := rfl
@[simp] theorem mem_vram (s : State) : s.mem .vram = s.vram := rfl
@[simp] theorem setMem_mem_self (s : State) (sp : Space) (m : Memory) : (s.setMem sp m).mem sp = m := by cases sp <;> rfl
theorem setMem_mem_other (s : State) (sp sp' : Space) (m : Memory) (h : sp' ≠ sp) : (s.setMem sp m).mem sp' = s.mem sp' := by
  cases sp <;> cases sp' <;> first | rfl | exact absurd rfl h
@[simp] theorem setMem_setMem (s : State) (sp : Space) (m m' : Memory) : (s.setMem sp m).setMem sp m' = s.setMem sp m' := by
  cases sp <;> rfl

@[simp] theorem setMem_sched (s : State) (sp : Space) (m : Memory) : (s.setMem sp m).sched = s.sched := by cases sp <;> rfl
@[simp] theorem setMem_ppu (s : State) (sp : Space) (m : Memory) : (s.setMem sp m).ppu = s.ppu := by cases sp <;> rfl
@[simp] theorem setMem_dispcnt (s : State) (sp : Space) (m : Memory) : (s.setMem sp m).dispcnt = s.dispcnt := by cases sp <;> rfl
@[simp] theorem setMem_dispstat (s : State) (sp : Space) (m : Memory) : (s.setMem sp m).dispstat = s.dispstat := by cases sp <;> rfl
@[simp] theorem setMem_bgcnt (s : State) (sp : Space) (m : Memory) : (s.setMem sp m).bgcnt = s.bgcnt := by cases sp <;> rfl
@[simp] theorem setMem_bghofs (s : State) (sp : Space) (m : Memory) : (s.setMem sp m).bghofs = s.bghofs := by cases sp <;> rfl
@[simp] theorem setMem_bgvofs (s : State) (sp : Space) (m : Memory) : (s.setMem sp m).bgvofs = s.bgvofs := by cases sp <;> rfl
@[simp] theorem setMem_winh (s : State) (sp : Space) (m : Memory) : (s.setMem sp m).winh = s.winh := by cases sp <;> rfl
@[simp] theorem setMem_winv (s : State) (sp : Space) (m : Memory) : (s.setMem sp m).winv = s.winv := by cases sp <;> rfl
@[simp] theorem setMem_winin (s : State) (sp : Space) (m : Memory) : (s.setMem sp m).winin = s.winin := by cases sp <;> rfl
@[simp] theorem setMem_winout (s : State) (sp : Space) (m : Memory) : (s.setMem sp m).winout = s.winout := by cases sp <;> rfl
@[simp] theorem setMem_mosaic (s : State) (sp : Space) (m : Memory) : (s.setMem sp m).mosaic = s.mosaic := by cases sp <;> rfl
@[simp] theorem setMem_bldcnt (s : State) (sp : Space) (m : Memory) : (s.setMem sp m).bldcnt = s.bldcnt := by cases sp <;> rfl
@[simp] theorem setMem_eva (s : State) (sp : Space) (m : Memory) : (s.setMem sp m).eva = s.eva := by cases sp <;> rfl
@[simp] theorem setMem_evb (s : State) (sp : Space) (m : Memory) : (s.setMem sp m).evb = s.evb := by cases sp <;> rfl
@[simp] theorem setMem_evy (s : State) (sp : Space) (m : Memory) : (s.setMem sp m).evy = s.evy := by cases sp <;> rfl
@[simp] theorem setMem_bgpa (s : State) (sp : Space) (m : Memory) : (s.setMem sp m).bgpa = s.bgpa := by cases sp <;> rfl
@[simp] theorem setMem_bgpb (s : State) (sp : Space) (m : Memory) : (s.setMem sp m).bgpb = s.bgpb := by cases sp <;> rfl
@[simp] theorem setMem_bgpc (s : State) (sp : Space) (m : Memory) : (s.setMem sp m).bgpc = s.bgpc := by cases sp <;> rfl
@[simp] theorem setMem_bgpd (s : State) (sp : Space) (m : Memory) : (s.setMem sp m).bgpd = s.bgpd := by cases sp <;> rfl
@[simp] theorem setMem_bgx (s : State) (sp : Space) (m : Memory) : (s.setMem sp m).bgx = s.bgx := by cases sp <;> rfl
@[simp] theorem setMem_bgy (s : State) (sp : Space) (m : Memory) : (s.setMem sp m).bgy = s.bgy := by cases sp <;> rfl
@[simp] theorem setMem_frame (s : State) (sp : Space) (m : Memory) : (s.setMem sp m).frame = s.frame := by cases sp <;> rfl
@[simp] theorem setMem_tm (s : State) (sp : Space) (m : Memory) : (s.setMem sp m).tm = s.tm := by cases sp <;> rfl
@[simp] theorem setMem_fault (s : State) (sp : Space) (m : Memory) : (s.setMem sp m).fault = s.fault := by cases sp <;> rfl
@[simp] theorem setMem_out (s : State) (sp : Space) (m : Memory) : (s.setMem sp m).out = s.out := by cases sp <;> rfl
@[simp] theorem setMem_input (s : State) (sp : Space) (m : Memory) : (s.setMem sp m).input = s.input := by cases sp <;> rfl
@[simp] theorem setMem_readout (s : State) (sp : Space) (m : Memory) : (s.setMem sp m).readout = s.readout := by cases sp <;> rfl
@[simp] theorem setMem_draws (s : State) (sp : Space) (m : Memory) : (s.setMem sp m).draws = s.draws := by cases sp <;> rfl
@[simp] theorem setMem_params (s : State) (sp : Space) (m : Memory) : (s.setMem sp m).params = s.params := by cases sp <;> rfl

/-! ## Arrays -/

@[simp] theorem two_get_set_self {α : Type} (t : Two α) (i : Ix2) (v : α) : (t.set i v).get i = v := by cases i <;> rfl
theorem two_get_set_other {α : Type} (t : Two α) (i j : Ix2) (v : α) (h : j ≠ i) : (t.set i v).get j = t.get j := by
  cases i <;> cases j <;> first | rfl | exact absurd rfl h
@[simp] theorem two_set_get_self {α : Type} (t : Two α) (i : Ix2) : t.set i (t.get i) = t := by cases i <;> rfl
@[simp] theorem two_set_set {α : Type} (t : Two α) (i : Ix2) (v w : α) : (t.set i v).set i w = t.set i w := by cases i <;> rfl
@[simp] theorem four_get_set_self {α : Type} (t : Four α) (i : Ix4) (v : α) : (t.set i v).get i = v := by cases i <;> rfl
theorem four_get_set_other {α : Type} (t : Four α) (i j : Ix4) (v : α) (h : j ≠ i) : (t.set i v).get j = t.get j := by
  cases i <;> cases j <;> first | rfl | exact absurd rfl h
@[simp] theorem four_set_get_self {α : Type} (t : Four α) (i : Ix4) : t.set i (t.get i) = t := by cases i <;> rfl
@[simp] theorem four_set_set {α : Type} (t : Four α) (i : Ix4) (v w : α) : (t.set i v).set i w = t.set i w := by cases i <;> rfl

end Sys2Proof.Machine
end

