-- ==== Sys2Proof/Laws/Events.lean ====
section
/-! SUPPORT. Laws/Events.lean: running actions, faults, the Scheduler's Add, and what each phase handler does in time and too
late. -/

namespace Sys2Proof.Machine

/-! ## Actions and faults -/

@[simp] theorem runOps_nil (s : State) : runOps [] s = s := rfl

theorem runOps_cons (f : State → State) (fs : List (State → State)) (s : State) (h : s.fault = none) :
    runOps (f :: fs) s = runOps fs (f s) := by simp [runOps, State.faulted, h]

theorem runOps_of_fault (fs : List (State → State)) (s : State) (h : s.fault ≠ none) : runOps fs s = s := by
  cases fs with
  | nil => rfl
  | cons f fs =>
    obtain ⟨c, hc⟩ := Option.ne_none_iff_exists'.1 h
    simp [runOps, State.faulted, hc]

theorem raiseFault_of_none (c : FaultCode) (s : State) (h : s.fault = none) :
    raiseFault c s = { s with fault := some c } := by simp [raiseFault, h]

theorem raiseFault_of_some (c : FaultCode) (s : State) (h : s.fault ≠ none) : raiseFault c s = s := by
  obtain ⟨d, hd⟩ := Option.ne_none_iff_exists'.1 h
  simp [raiseFault, hd]

theorem faulted_eq (s : State) : s.faulted = true ↔ s.fault ≠ none := by
  cases h : s.fault <;> simp [State.faulted, h]

theorem faulted_of_none (s : State) (h : s.fault = none) : s.faulted = false := by simp [State.faulted, h]

theorem faulted_of_some (s : State) (h : s.fault ≠ none) : s.faulted = true := (faulted_eq s).2 h

theorem raiseIf_eq (b : Bool) (src : Source) (f : Option Word64) (s : State) :
    raiseIf b src f s = { s with out := s.out ++ if b then [⟨.raise src, s.sched.now, f⟩] else [] } := by
  cases b <;> simp [raiseIf, emit]

/-! ## The Scheduler -/

theorem schedAdd_of_neg (delay : Int) (tag : Phase) (s : State) (h : delay < 0) :
    schedAdd delay tag s = raiseFault .negativeDelay s := if_pos h

theorem schedAdd_of_nonneg (delay : Int) (tag : Phase) (s : State) (h : 0 ≤ delay) :
    schedAdd delay tag s =
      { s with
        sched := ⟨s.sched.now,
          insertEvent ⟨s.sched.now + BitVec.ofInt 64 delay, s.sched.nextSeq, tag⟩ s.sched.queue,
          s.sched.nextSeq + 1⟩ } := if_neg (not_lt.2 h)

/-- Where `Next` is not too late it writes the phase and arms the event at the handled event's `fire_cycle` plus the
duration (R179, R191). -/
theorem nextPhase_inTime (p : Phase) (late : Int) (s : State) (h : late ≤ phaseDur p) :
    nextPhase p late s =
      { s with
        ppu := { s.ppu with phase := p }
        sched := ⟨s.sched.now,
          insertEvent ⟨firedAt late s + BitVec.ofNat 64 (phaseDur p), s.sched.nextSeq, p⟩ s.sched.queue,
          s.sched.nextSeq + 1⟩ } := by
  unfold nextPhase
  rw [schedAdd_of_nonneg _ _ _ (by omega)]
  have : s.sched.now + BitVec.ofInt 64 ((phaseDur p : Int) - late) =
      firedAt late s + BitVec.ofNat 64 (phaseDur p) := by
    rw [firedAt, Int.sub_eq_add_neg, BitVec.ofInt_add, BitVec.ofInt_neg, BitVec.ofInt_natCast, BitVec.sub_eq_add_neg,
      BitVec.add_assoc, BitVec.add_comm (BitVec.ofNat 64 _)]
  simp only [this]

/-- Where it is too late it writes the phase and records the fault (R173, R446). -/
theorem nextPhase_tooLate (p : Phase) (late : Int) (s : State) (h : (phaseDur p : Int) < late) (hf : s.fault = none) :
    nextPhase p late s = { s with ppu := { s.ppu with phase := p }, fault := some .negativeDelay } := by
  unfold nextPhase
  rw [schedAdd_of_neg _ _ _ (by omega)]
  exact raiseFault_of_none _ _ hf

/-- Inserting an event splits the queue at the first entry that does not come before it (R172). -/
theorem insertEvent_split (e : Event) (q : List Event) :
    ∃ before after, q = before ++ after ∧ insertEvent e q = before ++ e :: after ∧
      (∀ x ∈ before, x.before e = true) ∧ ∀ x, after.head? = some x → x.before e = false := by
  induction q with
  | nil => exact ⟨[], [], rfl, rfl, by simp, by simp⟩
  | cons x rest ih =>
    unfold insertEvent
    split
    · rename_i hx
      obtain ⟨b, a, h1, h2, h3, h4⟩ := ih
      refine ⟨x :: b, a, by simp [h1], by simp [h2], ?_, h4⟩
      intro y hy
      rcases List.mem_cons.1 hy with rfl | hy
      · exact hx
      · exact h3 y hy
    · rename_i hx
      exact ⟨[], x :: rest, rfl, rfl, by simp, by simpa using hx⟩

/-! ## The handlers -/

theorem onScanlineEnd_inTime (late : Int) (s : State) (h : late ≤ 46) (hf : s.fault = none) :
    onScanlineEnd late s =
      renderScanline (raiseHblank (firedAt late s) (nextPhase .hblankSearch late s)) := by
  have h1 := nextPhase_inTime .hblankSearch late s h
  unfold onScanlineEnd
  rw [runOps_cons _ _ _ hf, runOps_cons _ _ _ (by rw [h1]; exact hf),
    runOps_cons _ _ _ (by rw [h1]; simp [raiseHblank, hf]), runOps_nil]

theorem onScanlineEnd_tooLate (late : Int) (s : State) (h : 46 < late) (hf : s.fault = none) :
    onScanlineEnd late s = { s with ppu := { s.ppu with phase := .hblankSearch }, fault := some .negativeDelay } := by
  unfold onScanlineEnd
  rw [runOps_cons _ _ _ hf, nextPhase_tooLate _ _ _ h hf, runOps_of_fault _ _ (by simp)]

theorem onHblankSearchEnd_inTime (late : Int) (s : State) (h : late ≤ 226) (hf : s.fault = none) :
    onHblankSearchEnd late s =
      setHblankFlag true (requestVideoFromLine2 (firedAt late s)
        (emit (.request .hblank) (some (firedAt late s)) (nextPhase .hblank late s))) := by
  have h1 := nextPhase_inTime .hblank late s h
  unfold onHblankSearchEnd
  rw [runOps_cons _ _ _ hf, runOps_cons _ _ _ (by rw [h1]; exact hf), runOps_cons _ _ _ (by rw [h1]; simpa using hf),
    runOps_cons _ _ _ (by rw [h1]; unfold requestVideoFromLine2; split <;> simpa using hf), runOps_nil]

theorem onHblankSearchEnd_tooLate (late : Int) (s : State) (h : 226 < late) (hf : s.fault = none) :
    onHblankSearchEnd late s = { s with ppu := { s.ppu with phase := .hblank }, fault := some .negativeDelay } := by
  unfold onHblankSearchEnd
  rw [runOps_cons _ _ _ hf, nextPhase_tooLate _ _ _ h hf, runOps_of_fault _ _ (by simp)]

theorem onHblankEnd_eq (late : Int) (s : State) (hf : s.fault = none) :
    onHblankEnd late s =
      runOps [hblankBranch late (firedAt late s), updateAffine]
        (evalVCount (some (firedAt late s)) (setVcount (s.ppu.vcount + 1) (setHblankFlag false s))) := by
  unfold onHblankEnd
  rw [runOps_cons _ _ _ hf, runOps_cons _ _ _ (by simpa using hf), runOps_cons _ _ _ (by simpa using hf)]

theorem enterVblank_inTime (late : Int) (fire : Word64) (s : State) (h : late ≤ 1006) (hf : s.fault = none) :
    enterVblank late fire s =
      clearMosaic (raiseVblank fire (setVblankFlag true (emit (.request .vblank) (some fire)
        (nextPhase .vblankScanline late (emit (.draw s.frame) (some fire) s))))) := by
  have h1 := nextPhase_inTime .vblankScanline late (emit (.draw s.frame) (some fire) s) h
  have hf' : (nextPhase .vblankScanline late (emit (.draw s.frame) (some fire) s)).fault = none := by
    rw [h1]; simpa using hf
  unfold enterVblank
  rw [runOps_cons _ _ _ hf, runOps_cons _ _ _ (by simpa using hf), runOps_cons _ _ _ hf', runOps_cons _ _ _ (by simpa using hf'),
    runOps_cons _ _ _ (by simpa using hf'), runOps_cons _ _ _ (by simpa [raiseVblank] using hf'), runOps_nil]

theorem enterVblank_tooLate (late : Int) (fire : Word64) (s : State) (h : 1006 < late) (hf : s.fault = none) :
    enterVblank late fire s =
      { emit (.draw s.frame) (some fire) s with
        ppu := { s.ppu with phase := .vblankScanline }, fault := some .negativeDelay } := by
  unfold enterVblank
  rw [runOps_cons _ _ _ hf, runOps_cons _ _ _ (by simpa using hf), nextPhase_tooLate _ _ _ h (by simpa using hf),
    runOps_of_fault _ _ (by simp)]
  rfl

theorem enterVisibleLine_inTime (late : Int) (s : State) (_h : late ≤ 960) (hf : s.fault = none) :
    enterVisibleLine late s = nextPhase .scanline late (advanceMosaic s) := by
  unfold enterVisibleLine
  rw [runOps_cons _ _ _ hf, runOps_cons _ _ _ (by simpa using hf), runOps_nil]

theorem enterVisibleLine_tooLate (late : Int) (s : State) (h : 960 < late) (hf : s.fault = none) :
    enterVisibleLine late s =
      { advanceMosaic s with ppu := { s.ppu with phase := .scanline }, fault := some .negativeDelay } := by
  unfold enterVisibleLine
  rw [runOps_cons _ _ _ hf, runOps_cons _ _ _ (by simpa using hf), nextPhase_tooLate _ _ _ h (by simpa using hf), runOps_nil]
  rfl

theorem onVblankScanlineEnd_inTime (late : Int) (s : State) (h : late ≤ 226) (hf : s.fault = none) :
    onVblankScanlineEnd late s =
      raiseHblank (firedAt late s) (blankingRequests (firedAt late s) (setHblankFlag true (nextPhase .vblankHblank late s))) := by
  have h1 := nextPhase_inTime .vblankHblank late s h
  have hf' : (nextPhase .vblankHblank late s).fault = none := by rw [h1]; exact hf
  unfold onVblankScanlineEnd
  rw [runOps_cons _ _ _ hf, runOps_cons _ _ _ hf', runOps_cons _ _ _ (by simpa using hf'),
    runOps_cons _ _ _ (by unfold blankingRequests; split <;> (try split) <;> simpa using hf'), runOps_nil]

theorem onVblankScanlineEnd_tooLate (late : Int) (s : State) (h : 226 < late) (hf : s.fault = none) :
    onVblankScanlineEnd late s = { s with ppu := { s.ppu with phase := .vblankHblank }, fault := some .negativeDelay } := by
  unfold onVblankScanlineEnd
  rw [runOps_cons _ _ _ hf, nextPhase_tooLate _ _ _ h hf, runOps_of_fault _ _ (by simp)]

theorem onVblankHblankEnd_eq (late : Int) (s : State) (hf : s.fault = none) :
    onVblankHblankEnd late s =
      runOps [vblankBranch late, evalVCount (some (firedAt late s))] (setHblankFlag false s) := by
  unfold onVblankHblankEnd
  rw [runOps_cons _ _ _ hf]

end Sys2Proof.Machine
end

