-- ==== Sys2Proof/Laws/Memory.lean ====
section
/-! SUPPORT. Laws/Memory.lean: sparse tables, the canonical form of memories and of the frame, read after write. -/

namespace Sys2Proof.Machine

variable {α : Type}

/-! ## Tables -/

theorem keysRise_iff (l : List (Nat × α)) : keysRise l = true ↔ l.Pairwise fun a b => a.1 < b.1 := by
  induction l with
  | nil => simp [keysRise]
  | cons a t ih =>
    cases t with
    | nil => simp [keysRise]
    | cons b t =>
      rw [keysRise, Bool.and_eq_true, ih, List.pairwise_cons (l := b :: t)]
      constructor
      · rintro ⟨h, hp⟩
        refine ⟨fun c hc => ?_, hp⟩
        have h' : a.1 < b.1 := by simpa using h
        rcases List.mem_cons.1 hc with rfl | hc
        · exact h'
        · exact lt_trans h' ((List.pairwise_cons.1 hp).1 c hc)
      · rintro ⟨h, hp⟩
        exact ⟨by simpa using h b (by simp), hp⟩

@[simp] theorem lookupKey_setKey_self (l : List (Nat × α)) (a : Nat) (x : α) : lookupKey (setKey l a x) a = some x := by
  induction l with
  | nil => simp [setKey, lookupKey]
  | cons c t ih =>
    obtain ⟨k, v⟩ := c
    unfold setKey
    split
    · rename_i h; simp [lookupKey, ih, Nat.ne_of_lt h]
    · split <;> simp [lookupKey]

theorem lookupKey_setKey_other (l : List (Nat × α)) (a b : Nat) (x : α) (h : b ≠ a) :
    lookupKey (setKey l a x) b = lookupKey l b := by
  induction l with
  | nil => simp [setKey, lookupKey, Ne.symm h]
  | cons c t ih =>
    obtain ⟨k, v⟩ := c
    unfold setKey
    split
    · simp [lookupKey, ih]
    · split
      · rename_i hk; subst hk; simp [lookupKey, Ne.symm h]
      · simp [lookupKey, Ne.symm h]

theorem lookupKey_eraseKey_other (l : List (Nat × α)) (a b : Nat) (h : b ≠ a) :
    lookupKey (eraseKey l a) b = lookupKey l b := by
  induction l with
  | nil => rfl
  | cons c t ih =>
    obtain ⟨k, v⟩ := c
    unfold eraseKey
    split
    · rename_i hk; subst hk; simp [lookupKey, Ne.symm h]
    · simp [lookupKey, ih]

theorem lookupKey_of_lt (l : List (Nat × α)) (a : Nat) (h : ∀ c ∈ l, a < c.1) : lookupKey l a = none := by
  induction l with
  | nil => rfl
  | cons c t ih =>
    have hc := h c (by simp)
    simp [lookupKey, Nat.ne_of_gt hc, ih fun d hd => h d (by simp [hd])]

theorem lookupKey_eraseKey_self (l : List (Nat × α)) (a : Nat) (h : keysRise l = true) :
    lookupKey (eraseKey l a) a = none := by
  rw [keysRise_iff] at h
  induction l with
  | nil => rfl
  | cons c t ih =>
    obtain ⟨k, v⟩ := c
    have hp := List.pairwise_cons.1 h
    unfold eraseKey
    split
    · rename_i hk; subst hk; exact lookupKey_of_lt t k hp.1
    · rename_i hk; simp [lookupKey, hk, ih hp.2]

theorem mem_setKey (l : List (Nat × α)) (a : Nat) (x : α) (c : Nat × α) (h : c ∈ setKey l a x) : c = (a, x) ∨ c ∈ l := by
  induction l with
  | nil => simpa [setKey] using h
  | cons d t ih =>
    obtain ⟨k, v⟩ := d
    unfold setKey at h
    split at h
    · rcases List.mem_cons.1 h with h | h
      · simp [h]
      · rcases ih h with h | h <;> simp [h]
    · split at h
      · rcases List.mem_cons.1 h with h | h <;> simp [h]
      · rcases List.mem_cons.1 h with h | h
        · exact .inl h
        · exact .inr h

theorem eraseKey_sublist (l : List (Nat × α)) (a : Nat) : (eraseKey l a).Sublist l := by
  induction l with
  | nil => exact .slnil
  | cons d t ih =>
    obtain ⟨k, v⟩ := d
    unfold eraseKey
    split
    · exact List.sublist_cons_self _ _
    · exact ih.cons_cons _

theorem keysRise_setKey (l : List (Nat × α)) (a : Nat) (x : α) (h : keysRise l = true) : keysRise (setKey l a x) = true := by
  rw [keysRise_iff] at h ⊢
  induction l with
  | nil => simp [setKey]
  | cons d t ih =>
    obtain ⟨k, v⟩ := d
    have hp := List.pairwise_cons.1 h
    unfold setKey
    split
    · rename_i hk
      refine List.pairwise_cons.2 ⟨fun c hc => ?_, ih hp.2⟩
      rcases mem_setKey t a x c hc with rfl | hc
      · exact hk
      · exact hp.1 c hc
    · split
      · rename_i hk; subst hk; exact List.pairwise_cons.2 ⟨hp.1, hp.2⟩
      · rename_i h1 h2
        refine List.pairwise_cons.2 ⟨fun c hc => ?_, h⟩
        rcases List.mem_cons.1 hc with rfl | hc
        · show a < k; omega
        · have := hp.1 c hc; show a < c.1; simp only at this; omega

theorem keysRise_eraseKey (l : List (Nat × α)) (a : Nat) (h : keysRise l = true) : keysRise (eraseKey l a) = true := by
  rw [keysRise_iff] at h ⊢
  exact h.sublist (eraseKey_sublist l a)

/-! ## Memories -/

theorem wf_reset : Memory.wf [] = true := rfl

theorem read_write_self (m : Memory) (off : Nat) (v : Byte) (h : m.wf = true) : (m.write off v).read off = v := by
  unfold Memory.write
  split
  · rename_i hv
    simp [Memory.read, lookupKey_eraseKey_self m off (Bool.and_eq_true _ _ ▸ h).1, hv]
  · simp [Memory.read]

theorem read_write_other (m : Memory) (off a : Nat) (v : Byte) (h : a ≠ off) : (m.write off v).read a = m.read a := by
  unfold Memory.write Memory.read
  split
  · rw [lookupKey_eraseKey_other _ _ _ h]
  · rw [lookupKey_setKey_other _ _ _ _ h]

/-- Every write keeps the canonical form. -/
theorem wf_write (m : Memory) (off : Nat) (v : Byte) (h : m.wf = true) : (m.write off v).wf = true := by
  obtain ⟨hk, ha⟩ := (Bool.and_eq_true _ _).mp h
  unfold Memory.write
  split
  · refine (Bool.and_eq_true _ _).mpr ⟨keysRise_eraseKey m off hk, ?_⟩
    rw [List.all_eq_true] at ha ⊢
    exact fun c hc => ha c ((eraseKey_sublist m off).subset hc)
  · rename_i hv
    refine (Bool.and_eq_true _ _).mpr ⟨keysRise_setKey m off v hk, ?_⟩
    rw [List.all_eq_true] at ha ⊢
    intro c hc
    rcases mem_setKey m off v c hc with rfl | hc
    · simpa using hv
    · exact ha c hc

theorem within_write (n : Nat) (m : Memory) (off : Nat) (v : Byte) (hoff : off < n) (h : m.within n = true) :
    (m.write off v).within n = true := by
  unfold Memory.within at h ⊢
  rw [List.all_eq_true] at h ⊢
  unfold Memory.write
  split
  · exact fun c hc => h c ((eraseKey_sublist m off).subset hc)
  · intro c hc
    rcases mem_setKey m off v c hc with rfl | hc
    · simpa using hoff
    · exact h c hc

/-- What a byte write can do (R9, R85, R87). -/
theorem memWrite8_of_lt (sp : Space) (off : Nat) (v : Byte) (s : State) (h : off < Config.spaceSize sp) :
    memWrite8 sp off v s = s.setMem sp ((s.mem sp).write off v) := if_pos h

theorem memRead8_of_lt (s : State) (sp : Space) (off : Nat) (h : off < Config.spaceSize sp) :
    memRead8 s sp off = some ((s.mem sp).read off) := if_pos h

theorem memRead16_of_lt (s : State) (sp : Space) (off : Nat) (h : off + 1 < Config.spaceSize sp) :
    memRead16 s sp off = some ((s.mem sp).read (off + 1) ++ (s.mem sp).read off) := by
  simp [memRead16, memRead8, h, Nat.lt_of_succ_lt h]

/-! ## The frame -/

theorem frame_wf_setKey (f : Frame) (y : Nat) (row : List Pixel) (hy : y < 160) (hr : row.length = 240)
    (h : Frame.wf f = true) : Frame.wf (setKey f y row) = true := by
  obtain ⟨hk, ha⟩ := (Bool.and_eq_true _ _).mp h
  refine (Bool.and_eq_true _ _).mpr ⟨keysRise_setKey f y row hk, ?_⟩
  rw [List.all_eq_true] at ha ⊢
  intro c hc
  rcases mem_setKey f y row c hc with rfl | hc
  · simp [hr, Config.nVisible, Config.screenW, hy]
  · exact ha c hc

theorem frame_pixel_setKey_self (f : Frame) (y x : Nat) (row : List Pixel) :
    Frame.pixel (setKey f y row) y x = row[x]? := by simp [Frame.pixel]

theorem frame_pixel_setKey_other (f : Frame) (y y' x : Nat) (row : List Pixel) (h : y' ≠ y) :
    Frame.pixel (setKey f y row) y' x = Frame.pixel f y' x := by
  simp [Frame.pixel, lookupKey_setKey_other _ _ _ _ h]

end Sys2Proof.Machine
end

