-- ==== Sys2Proof/Laws/Decode.lean ====
section
/-! SUPPORT. Laws/Decode.lean: the fields of a bus word, the decoder on bus words, the decoded addresses. -/

namespace Sys2Proof

open Sys2Proof.Machine

/-! ## Fields of a bus word -/

@[simp] theorem wordOp_busWord (op : BitVec 4) (addr : BitVec 32) (data : Half) : wordOp (busWord op addr data) = op := by
  apply BitVec.eq_of_getLsbD_eq; intro i hi
  have h1 : 60 + i - 16 - 12 - 32 = i := by omega
  simp only [wordOp, busWord, BitVec.getLsbD_extractLsb', BitVec.getLsbD_append, hi, decide_true, Bool.true_and]
  rw [if_neg (by omega), if_neg (by omega), if_neg (by omega), h1]

@[simp] theorem wordAddr_busWord (op : BitVec 4) (addr : BitVec 32) (data : Half) : wordAddr (busWord op addr data) = addr := by
  apply BitVec.eq_of_getLsbD_eq; intro i hi
  have h1 : 28 + i - 16 - 12 = i := by omega
  simp only [wordAddr, busWord, BitVec.getLsbD_extractLsb', BitVec.getLsbD_append, hi, decide_true, Bool.true_and]
  rw [if_neg (by omega), if_neg (by omega), if_pos (by omega), h1]

@[simp] theorem wordZero_busWord (op : BitVec 4) (addr : BitVec 32) (data : Half) : wordZero (busWord op addr data) = 0 := by
  apply BitVec.eq_of_getLsbD_eq; intro i hi
  simp only [wordZero, busWord, BitVec.getLsbD_extractLsb', BitVec.getLsbD_append, hi, decide_true, Bool.true_and]
  rw [if_neg (by omega), if_pos (by omega)]
  simp

@[simp] theorem wordData_busWord (op : BitVec 4) (addr : BitVec 32) (data : Half) : wordData (busWord op addr data) = data := by
  apply BitVec.eq_of_getLsbD_eq; intro i hi
  simp only [wordData, busWord, BitVec.getLsbD_extractLsb', BitVec.getLsbD_append, hi, decide_true, Bool.true_and]
  rw [if_pos (by omega), Nat.zero_add]

@[simp] theorem byteData_low (v : Byte) : (byteData v).extractLsb' 0 8 = v := by
  show (0#8 ++ v : BitVec (8 + 8)).extractLsb' 0 8 = v
  apply BitVec.eq_of_getLsbD_eq; intro i hi
  simp only [BitVec.getLsbD_extractLsb', BitVec.getLsbD_append]
  simp [hi]

@[simp] theorem byteData_high (v : Byte) : (byteData v).extractLsb' 8 8 = 0 := by
  show (0#8 ++ v : BitVec (8 + 8)).extractLsb' 8 8 = 0
  apply BitVec.eq_of_getLsbD_eq; intro i hi
  simp only [BitVec.getLsbD_extractLsb', BitVec.getLsbD_append]
  simp

/-! ## The decoder on bus words: the opcode selects the command, the address its row (R111) -/

theorem decode_rd8 (addr : BitVec 32) : decode (.command (busWord 2 addr 0)) = .ok (rd8Row addr) := by
  simp [decode, decodeCommand]

theorem decode_rd16 (addr : BitVec 32) : decode (.command (busWord 3 addr 0)) = .ok (rd16Row addr) := by
  simp [decode, decodeCommand]

theorem decode_wr8 (addr : BitVec 32) (v : Byte) : decode (.command (busWord 4 addr (byteData v))) = .ok (wr8Row addr v) := by
  simp [decode, decodeCommand]

theorem decode_wr16 (addr : BitVec 32) (v : Half) : decode (.command (busWord 5 addr v)) = .ok (wr16Row addr v) := by
  simp [decode, decodeCommand]

/-! ## Decoded addresses -/

theorem decodeAddr_reg (r : Reg) (lane : Lane) :
    decodeAddr (BitVec.ofNat 32 (Loc.reg r lane).addr) = some (.reg r lane) := by
  cases lane <;> cases r <;> first | rfl | (rename_i n; cases n <;> rfl)

theorem spaceBase_add (sp : Space) (off : Nat) (h : off < Config.spaceSize sp) :
    (BitVec.ofNat 32 (spaceBase sp + off)).toNat = spaceBase sp + off := by
  cases sp <;> simp only [Config.spaceSize] at h <;> simp only [spaceBase, BitVec.toNat_ofNat] <;> omega

theorem decodeAddr_mem (sp : Space) (off : Nat) (h : off < Config.spaceSize sp) :
    decodeAddr (BitVec.ofNat 32 (spaceBase sp + off)) = some (.mem sp off) := by
  unfold decodeAddr inSpace
  rw [spaceBase_add sp off h]
  cases sp
  · have h' : off < 1024 := h
    have h1 : spaceBase .pram ≤ spaceBase .pram + off := Nat.le_add_right _ _
    have h2 : spaceBase .pram + off < spaceBase .pram + Config.spaceSize .pram := Nat.add_lt_add_left h _
    simp only [h1, h2, decide_true, Bool.and_self, if_true, Nat.add_sub_cancel_left]
  · have h' : off < 1024 := h
    have h1 : spaceBase .oam ≤ spaceBase .oam + off := Nat.le_add_right _ _
    have h2 : spaceBase .oam + off < spaceBase .oam + Config.spaceSize .oam := Nat.add_lt_add_left h _
    have h3 : ¬ spaceBase .oam + off < spaceBase .pram + Config.spaceSize .pram := by
      simp only [spaceBase, Config.spaceSize]; omega
    have h4 : ¬ spaceBase .oam + off < spaceBase .vram + Config.spaceSize .vram := by
      simp only [spaceBase, Config.spaceSize]; omega
    simp [h1, h2, h3, h4]
  · have h' : off < 98304 := h
    have h1 : spaceBase .vram ≤ spaceBase .vram + off := Nat.le_add_right _ _
    have h2 : spaceBase .vram + off < spaceBase .vram + Config.spaceSize .vram := Nat.add_lt_add_left h _
    have h3 : ¬ spaceBase .vram + off < spaceBase .pram + Config.spaceSize .pram := by
      simp only [spaceBase, Config.spaceSize]; omega
    simp [h1, h2, h3]

theorem decodeAddr_some_mem (a : BitVec 32) (sp : Space) (off : Nat) (h : decodeAddr a = some (.mem sp off)) :
    off < Config.spaceSize sp ∧ a = BitVec.ofNat 32 (spaceBase sp + off) := by
  have key : ∀ sp' : Space, inSpace sp' a.toNat = true → some (Loc.mem sp' (a.toNat - spaceBase sp')) = some (.mem sp off) →
      off < Config.spaceSize sp ∧ a = BitVec.ofNat 32 (spaceBase sp + off) := by
    intro sp' hin he
    simp only [inSpace, Bool.and_eq_true, decide_eq_true_eq] at hin
    simp only [Option.some.injEq, Loc.mem.injEq] at he
    obtain ⟨rfl, rfl⟩ := he
    refine ⟨by omega, ?_⟩
    rw [Nat.add_sub_cancel' hin.1]
    simp
  unfold decodeAddr at h
  simp only at h
  split at h
  · exact key _ ‹_› h
  · split at h
    · exact key _ ‹_› h
    · split at h
      · exact key _ ‹_› h
      · simp [decodeReg] at h

theorem decodeAddr_some_reg (a : BitVec 32) (r : Reg) (lane : Lane) (h : decodeAddr a = some (.reg r lane)) :
    a = BitVec.ofNat 32 (Loc.reg r lane).addr := by
  have h' : decodeReg a.toNat = some (.reg r lane) := by
    unfold decodeAddr at h
    simp only at h
    split at h
    · simp at h
    · split at h
      · simp at h
      · split at h
        · simp at h
        · exact h
  unfold decodeReg at h'
  rw [Option.map_eq_some_iff] at h'
  obtain ⟨r', hr, he⟩ := h'
  have hp : r'.addr = a.toNat - a.toNat % 2 := by simpa using List.find?_some hr
  simp only [Loc.reg.injEq] at he
  obtain ⟨rfl, rfl⟩ := he
  apply BitVec.eq_of_toNat_eq
  have := a.isLt
  simp only [Loc.addr, BitVec.toNat_ofNat, hp]
  split <;> simp only [Lane.toNat] <;> omega

/-! ## The rows of a decoded address, and their words -/

theorem rowsOf_reg (r : Reg) (lane : Lane) :
    rd8Row (BitVec.ofNat 32 (Loc.reg r lane).addr) = rd8At r lane ∧
    (∀ v, wr8Row (BitVec.ofNat 32 (Loc.reg r lane).addr) v = wr8At r lane v) ∧
    rd16Row (BitVec.ofNat 32 (Loc.reg r .lo).addr) = rd16At r ∧
    ∀ v, wr16Row (BitVec.ofNat 32 (Loc.reg r .lo).addr) v = wr16At r v := by
  simp [rd8Row, wr8Row, rd16Row, wr16Row, decodeAddr_reg]

theorem rowsOf_mem (sp : Space) (off : Nat) (h : off < Config.spaceSize sp) :
    rd8Row (BitVec.ofNat 32 (spaceBase sp + off)) = rd8Mem sp off ∧
    (∀ v, wr8Row (BitVec.ofNat 32 (spaceBase sp + off)) v = wr8Mem sp off v) ∧
    rd16Row (BitVec.ofNat 32 (spaceBase sp + off)) = rd16Mem sp off ∧
    ∀ v, wr16Row (BitVec.ofNat 32 (spaceBase sp + off)) v = wr16Mem sp off v := by
  simp [rd8Row, wr8Row, rd16Row, wr16Row, decodeAddr_mem sp off h]

theorem encode_rd8At (r : Reg) (lane : Lane) :
    encode (rd8At r lane) = .command (busWord 2 (BitVec.ofNat 32 (Loc.reg r lane).addr) 0) := by
  cases lane <;> cases r <;> first | rfl | (rename_i n; cases n <;> rfl)

theorem encode_wr8At (r : Reg) (lane : Lane) (v : Byte) :
    encode (wr8At r lane v) = .command (busWord 4 (BitVec.ofNat 32 (Loc.reg r lane).addr) (byteData v)) := by
  cases lane <;> cases r <;> first | rfl | (rename_i n; cases n <;> rfl)

theorem encode_rd16At (r : Reg) :
    encode (rd16At r) = .command (busWord 3 (BitVec.ofNat 32 (Loc.reg r .lo).addr) 0) := by
  cases r <;> first | rfl | (rename_i n; cases n <;> rfl)

theorem encode_wr16At (r : Reg) (v : Half) :
    encode (wr16At r v) = .command (busWord 5 (BitVec.ofNat 32 (Loc.reg r .lo).addr) v) := by
  cases r <;> first | rfl | (rename_i n; cases n <;> rfl)

theorem vramRow_lo (off : BitVec 16) : (BitVec.ofNat 17 off.toNat).msb = false := by
  rw [BitVec.msb_eq_decide, BitVec.toNat_ofNat]
  have := off.isLt
  simp only [decide_eq_false_iff_not]
  omega

theorem vramRow_hi (off : BitVec 15) : (BitVec.ofNat 17 (0x10000 + off.toNat)).msb = true := by
  rw [BitVec.msb_eq_decide, BitVec.toNat_ofNat]
  have := off.isLt
  simp only [decide_eq_true_eq]
  omega

end Sys2Proof
end

