-- ==== Sys2Proof/Laws/Rows.lean ====
section
/-! SUPPORT. Laws/Rows.lean: every instruction in one of fifteen forms, and what exec answers for the bus rows. -/

namespace Sys2Proof.Machine

/-! ## What exec answers -/

theorem exec_rd8At (r : Reg) (lane : Lane) (s : State) : exec (rd8At r lane) s = .next (busRead8 (.reg r lane) s) := by
  cases lane <;> cases r <;> first | rfl | (rename_i n; cases n <;> rfl)

theorem exec_wr8At (r : Reg) (lane : Lane) (v : Byte) (s : State) :
    exec (wr8At r lane v) s = .next (busWrite8 (.reg r lane) v s) := by
  cases lane <;> cases r <;> first | rfl | (rename_i n; cases n <;> rfl)

theorem exec_rd16At (r : Reg) (s : State) : exec (rd16At r) s = .next (busRead16 (.reg r .lo) s) := by
  cases r <;> first | rfl | (rename_i n; cases n <;> rfl)

theorem exec_wr16At (r : Reg) (v : Half) (s : State) : exec (wr16At r v) s = .next (busWrite16 (.reg r .lo) v s) := by
  cases r <;> first | rfl | (rename_i n; cases n <;> rfl)

/-- The `vram` row of an offset: which of the two it is, and the offset its operand stands for. -/
theorem vramRow_cases (off : Nat) (h : off < 98304) :
    ((BitVec.ofNat 17 off).msb = false ∧ (BitVec.ofNat 16 off).toNat = off) ∨
    ((BitVec.ofNat 17 off).msb = true ∧ 0x10000 + (BitVec.ofNat 15 off).toNat = off) := by
  simp only [BitVec.msb_eq_decide, BitVec.toNat_ofNat, decide_eq_false_iff_not, decide_eq_true_eq]
  omega

theorem exec_rd8Mem (sp : Space) (off : Nat) (s : State) (h : off < Config.spaceSize sp) :
    exec (rd8Mem sp off) s = .next (busRead8 (.mem sp off) s) := by
  have ten : off < 1024 → (BitVec.ofNat 10 off).toNat = off := fun h => by rw [BitVec.toNat_ofNat]; omega
  cases sp
  · show Host.Outcome.next (busRead8 (.mem .pram (BitVec.ofNat 10 off).toNat) s) = _
    rw [ten h]
  · show Host.Outcome.next (busRead8 (.mem .oam (BitVec.ofNat 10 off).toNat) s) = _
    rw [ten h]
  · rcases vramRow_cases off h with ⟨hm, ho⟩ | ⟨hm, ho⟩
    · simp only [rd8Mem, hm, Bool.false_eq_true, if_false, exec, execRd8VramLo, ho]
    · simp only [rd8Mem, hm, if_true, exec, execRd8VramHi, ho]

theorem exec_rd16Mem (sp : Space) (off : Nat) (s : State) (h : off < Config.spaceSize sp) :
    exec (rd16Mem sp off) s = .next (busRead16 (.mem sp off) s) := by
  have ten : off < 1024 → (BitVec.ofNat 10 off).toNat = off := fun h => by rw [BitVec.toNat_ofNat]; omega
  cases sp
  · show Host.Outcome.next (busRead16 (.mem .pram (BitVec.ofNat 10 off).toNat) s) = _
    rw [ten h]
  · show Host.Outcome.next (busRead16 (.mem .oam (BitVec.ofNat 10 off).toNat) s) = _
    rw [ten h]
  · rcases vramRow_cases off h with ⟨hm, ho⟩ | ⟨hm, ho⟩
    · simp only [rd16Mem, hm, Bool.false_eq_true, if_false, exec, execRd16VramLo, ho]
    · simp only [rd16Mem, hm, if_true, exec, execRd16VramHi, ho]

theorem exec_wr8Mem (sp : Space) (off : Nat) (v : Byte) (s : State) (h : off < Config.spaceSize sp) :
    exec (wr8Mem sp off v) s = .next (busWrite8 (.mem sp off) v s) := by
  have ten : off < 1024 → (BitVec.ofNat 10 off).toNat = off := fun h => by rw [BitVec.toNat_ofNat]; omega
  cases sp
  · show Host.Outcome.next (busWrite8 (.mem .pram (BitVec.ofNat 10 off).toNat) v s) = _
    rw [ten h]
  · show Host.Outcome.next (busWrite8 (.mem .oam (BitVec.ofNat 10 off).toNat) v s) = _
    rw [ten h]
  · rcases vramRow_cases off h with ⟨hm, ho⟩ | ⟨hm, ho⟩
    · simp only [wr8Mem, hm, Bool.false_eq_true, if_false, exec, execWr8VramLo, ho]
    · simp only [wr8Mem, hm, if_true, exec, execWr8VramHi, ho]

theorem exec_wr16Mem (sp : Space) (off : Nat) (v : Half) (s : State) (h : off < Config.spaceSize sp) :
    exec (wr16Mem sp off v) s = .next (busWrite16 (.mem sp off) v s) := by
  have ten : off < 1024 → (BitVec.ofNat 10 off).toNat = off := fun h => by rw [BitVec.toNat_ofNat]; omega
  cases sp
  · show Host.Outcome.next (busWrite16 (.mem .pram (BitVec.ofNat 10 off).toNat) v s) = _
    rw [ten h]
  · show Host.Outcome.next (busWrite16 (.mem .oam (BitVec.ofNat 10 off).toNat) v s) = _
    rw [ten h]
  · rcases vramRow_cases off h with ⟨hm, ho⟩ | ⟨hm, ho⟩
    · simp only [wr16Mem, hm, Bool.false_eq_true, if_false, exec, execWr16VramLo, ho]
    · simp only [wr16Mem, hm, if_true, exec, execWr16VramHi, ho]

/-! ## The words of the memory rows -/

theorem ofNat_toNat_self {w : Nat} (x : BitVec w) : BitVec.ofNat w x.toNat = x := by simp

theorem encodeOffset (base : BitVec 32) (w off : Nat) (h : off < 2 ^ w) (hw : w ≤ 32) :
    base + (BitVec.ofNat w off).setWidth 32 = BitVec.ofNat 32 (base.toNat + off) := by
  apply BitVec.eq_of_toNat_eq
  have : 2 ^ w ≤ 2 ^ 32 := Nat.pow_le_pow_right (by decide) hw
  rw [BitVec.toNat_add, BitVec.toNat_setWidth, BitVec.toNat_ofNat, BitVec.toNat_ofNat, Nat.mod_eq_of_lt h,
    Nat.mod_eq_of_lt (by omega : off < 2 ^ 32)]

theorem encode_rd8Mem (sp : Space) (off : Nat) (h : off < Config.spaceSize sp) :
    encode (rd8Mem sp off) = .command (busWord 2 (BitVec.ofNat 32 (spaceBase sp + off)) 0) := by
  cases sp
  · exact congrArg (fun a => Fetched.command (busWord 2 a 0)) (encodeOffset _ 10 off h (by decide))
  · exact congrArg (fun a => Fetched.command (busWord 2 a 0)) (encodeOffset _ 10 off h (by decide))
  · rcases vramRow_cases off h with ⟨hm, ho⟩ | ⟨hm, ho⟩
    · simp only [rd8Mem, hm, Bool.false_eq_true, if_false, encode]
      rw [encodeOffset _ 16 off (by rw [← ho]; exact (BitVec.ofNat 16 off).isLt) (by decide)]
      rfl
    · simp only [rd8Mem, hm, if_true, encode]
      rw [show BitVec.ofNat 15 off = BitVec.ofNat 15 (BitVec.ofNat 15 off).toNat from
        (ofNat_toNat_self _).symm,
        encodeOffset _ 15 _ (BitVec.ofNat 15 off).isLt (by decide)]
      congr 2
      apply congrArg
      show 0x06010000 + (BitVec.ofNat 15 off).toNat = 0x06000000 + off
      omega

theorem encode_rd16Mem (sp : Space) (off : Nat) (h : off < Config.spaceSize sp) :
    encode (rd16Mem sp off) = .command (busWord 3 (BitVec.ofNat 32 (spaceBase sp + off)) 0) := by
  cases sp
  · exact congrArg (fun a => Fetched.command (busWord 3 a 0)) (encodeOffset _ 10 off h (by decide))
  · exact congrArg (fun a => Fetched.command (busWord 3 a 0)) (encodeOffset _ 10 off h (by decide))
  · rcases vramRow_cases off h with ⟨hm, ho⟩ | ⟨hm, ho⟩
    · simp only [rd16Mem, hm, Bool.false_eq_true, if_false, encode]
      rw [encodeOffset _ 16 off (by rw [← ho]; exact (BitVec.ofNat 16 off).isLt) (by decide)]
      rfl
    · simp only [rd16Mem, hm, if_true, encode]
      rw [show BitVec.ofNat 15 off = BitVec.ofNat 15 (BitVec.ofNat 15 off).toNat from
        (ofNat_toNat_self _).symm,
        encodeOffset _ 15 _ (BitVec.ofNat 15 off).isLt (by decide)]
      congr 2
      apply congrArg
      show 0x06010000 + (BitVec.ofNat 15 off).toNat = 0x06000000 + off
      omega

theorem encode_wr8Mem (sp : Space) (off : Nat) (v : Byte) (h : off < Config.spaceSize sp) :
    encode (wr8Mem sp off v) = .command (busWord 4 (BitVec.ofNat 32 (spaceBase sp + off)) (byteData v)) := by
  cases sp
  · exact congrArg (fun a => Fetched.command (busWord 4 a (byteData v))) (encodeOffset _ 10 off h (by decide))
  · exact congrArg (fun a => Fetched.command (busWord 4 a (byteData v))) (encodeOffset _ 10 off h (by decide))
  · rcases vramRow_cases off h with ⟨hm, ho⟩ | ⟨hm, ho⟩
    · simp only [wr8Mem, hm, Bool.false_eq_true, if_false, encode]
      rw [encodeOffset _ 16 off (by rw [← ho]; exact (BitVec.ofNat 16 off).isLt) (by decide)]
      rfl
    · simp only [wr8Mem, hm, if_true, encode]
      rw [show BitVec.ofNat 15 off = BitVec.ofNat 15 (BitVec.ofNat 15 off).toNat from
        (ofNat_toNat_self _).symm,
        encodeOffset _ 15 _ (BitVec.ofNat 15 off).isLt (by decide)]
      congr 2
      apply congrArg
      show 0x06010000 + (BitVec.ofNat 15 off).toNat = 0x06000000 + off
      omega

theorem encode_wr16Mem (sp : Space) (off : Nat) (v : Half) (h : off < Config.spaceSize sp) :
    encode (wr16Mem sp off v) = .command (busWord 5 (BitVec.ofNat 32 (spaceBase sp + off)) v) := by
  cases sp
  · exact congrArg (fun a => Fetched.command (busWord 5 a v)) (encodeOffset _ 10 off h (by decide))
  · exact congrArg (fun a => Fetched.command (busWord 5 a v)) (encodeOffset _ 10 off h (by decide))
  · rcases vramRow_cases off h with ⟨hm, ho⟩ | ⟨hm, ho⟩
    · simp only [wr16Mem, hm, Bool.false_eq_true, if_false, encode]
      rw [encodeOffset _ 16 off (by rw [← ho]; exact (BitVec.ofNat 16 off).isLt) (by decide)]
      rfl
    · simp only [wr16Mem, hm, if_true, encode]
      rw [show BitVec.ofNat 15 off = BitVec.ofNat 15 (BitVec.ofNat 15 off).toNat from
        (ofNat_toNat_self _).symm,
        encodeOffset _ 15 _ (BitVec.ofNat 15 off).isLt (by decide)]
      congr 2
      apply congrArg
      show 0x06010000 + (BitVec.ofNat 15 off).toNat = 0x06000000 + off
      omega

/-! ## Every instruction has one of these forms -/

theorem ofNat_vramLo (o : BitVec 16) : BitVec.ofNat 16 o.toNat = o := by simp

theorem rd8Mem_vramLo (o : BitVec 16) : rd8Mem .vram o.toNat = .rd8VramLo o := by
  simp only [rd8Mem, vramRow_lo, ofNat_vramLo, Bool.false_eq_true, if_false]
theorem rd16Mem_vramLo (o : BitVec 16) : rd16Mem .vram o.toNat = .rd16VramLo o := by
  simp only [rd16Mem, vramRow_lo, ofNat_vramLo, Bool.false_eq_true, if_false]
theorem wr8Mem_vramLo (o : BitVec 16) (v : Byte) : wr8Mem .vram o.toNat v = .wr8VramLo o v := by
  simp only [wr8Mem, vramRow_lo, ofNat_vramLo, Bool.false_eq_true, if_false]
theorem wr16Mem_vramLo (o : BitVec 16) (v : Half) : wr16Mem .vram o.toNat v = .wr16VramLo o v := by
  simp only [wr16Mem, vramRow_lo, ofNat_vramLo, Bool.false_eq_true, if_false]

theorem ofNat_vramHi (o : BitVec 15) : BitVec.ofNat 15 (0x10000 + o.toNat) = o := by
  apply BitVec.eq_of_toNat_eq
  rw [BitVec.toNat_ofNat]
  have := o.isLt
  omega

theorem rd8Mem_vramHi (o : BitVec 15) : rd8Mem .vram (0x10000 + o.toNat) = .rd8VramHi o := by
  simp only [rd8Mem, vramRow_hi, ofNat_vramHi, if_true]
theorem rd16Mem_vramHi (o : BitVec 15) : rd16Mem .vram (0x10000 + o.toNat) = .rd16VramHi o := by
  simp only [rd16Mem, vramRow_hi, ofNat_vramHi, if_true]
theorem wr8Mem_vramHi (o : BitVec 15) (v : Byte) : wr8Mem .vram (0x10000 + o.toNat) v = .wr8VramHi o v := by
  simp only [wr8Mem, vramRow_hi, ofNat_vramHi, if_true]
theorem wr16Mem_vramHi (o : BitVec 15) (v : Half) : wr16Mem .vram (0x10000 + o.toNat) v = .wr16VramHi o v := by
  simp only [wr16Mem, vramRow_hi, ofNat_vramHi, if_true]

/-- A property of instructions holds of all if it holds of each form: the host commands, the register rows, the memory
rows, the events. -/
theorem instr_forms (P : Instr → Prop)
    (adv : ∀ d, P (.adv d)) (rst : P .rst)
    (rd8 : ∀ a, P (.rd8 a)) (rd16 : ∀ a, P (.rd16 a)) (wr8 : ∀ a v, P (.wr8 a v)) (wr16 : ∀ a v, P (.wr16 a v))
    (rd8At : ∀ r lane, P (rd8At r lane)) (rd16At : ∀ r, P (rd16At r))
    (wr8At : ∀ r lane v, P (wr8At r lane v)) (wr16At : ∀ r v, P (wr16At r v))
    (rd8Mem : ∀ sp off, off < Config.spaceSize sp → P (rd8Mem sp off))
    (rd16Mem : ∀ sp off, off < Config.spaceSize sp → P (rd16Mem sp off))
    (wr8Mem : ∀ sp off v, off < Config.spaceSize sp → P (wr8Mem sp off v))
    (wr16Mem : ∀ sp off v, off < Config.spaceSize sp → P (wr16Mem sp off v))
    (event : ∀ p late, P (eventOf p late)) (i : Instr) : P i := by
  have ten : ∀ o : BitVec 10, BitVec.ofNat 10 o.toNat = o := fun o => by simp
  have lo : ∀ o : BitVec 16, o.toNat < 98304 := fun o => by have := o.isLt; omega
  have hi : ∀ o : BitVec 15, 0x10000 + o.toNat < 98304 := fun o => by have := o.isLt; omega
  cases i with
  | adv delta => exact adv delta
  | rst => exact rst
  | rd8 addr => exact rd8 addr
  | rd16 addr => exact rd16 addr
  | wr8 addr data => exact wr8 addr data
  | wr16 addr data => exact wr16 addr data
  | wr8Dispcnt0 data => exact wr8At .dispcnt .lo data
  | rd8Dispcnt0 => exact rd8At .dispcnt .lo
  | wr8Dispcnt1 data => exact wr8At .dispcnt .hi data
  | rd8Dispcnt1 => exact rd8At .dispcnt .hi
  | wr16Dispcnt data => exact wr16At .dispcnt data
  | rd16Dispcnt => exact rd16At .dispcnt
  | wr8Dispstat0 data => exact wr8At .dispstat .lo data
  | rd8Dispstat0 => exact rd8At .dispstat .lo
  | wr8Dispstat1 data => exact wr8At .dispstat .hi data
  | rd8Dispstat1 => exact rd8At .dispstat .hi
  | wr16Dispstat data => exact wr16At .dispstat data
  | rd16Dispstat => exact rd16At .dispstat
  | wr8Vcount0 data => exact wr8At .vcount .lo data
  | rd8Vcount0 => exact rd8At .vcount .lo
  | wr8Vcount1 data => exact wr8At .vcount .hi data
  | rd8Vcount1 => exact rd8At .vcount .hi
  | wr16Vcount data => exact wr16At .vcount data
  | rd16Vcount => exact rd16At .vcount
  | wr8Bg0cnt0 data => exact wr8At (.bgcnt .n0) .lo data
  | rd8Bg0cnt0 => exact rd8At (.bgcnt .n0) .lo
  | wr8Bg0cnt1 data => exact wr8At (.bgcnt .n0) .hi data
  | rd8Bg0cnt1 => exact rd8At (.bgcnt .n0) .hi
  | wr16Bg0cnt data => exact wr16At (.bgcnt .n0) data
  | rd16Bg0cnt => exact rd16At (.bgcnt .n0)
  | wr8Bg1cnt0 data => exact wr8At (.bgcnt .n1) .lo data
  | rd8Bg1cnt0 => exact rd8At (.bgcnt .n1) .lo
  | wr8Bg1cnt1 data => exact wr8At (.bgcnt .n1) .hi data
  | rd8Bg1cnt1 => exact rd8At (.bgcnt .n1) .hi
  | wr16Bg1cnt data => exact wr16At (.bgcnt .n1) data
  | rd16Bg1cnt => exact rd16At (.bgcnt .n1)
  | wr8Bg2cnt0 data => exact wr8At (.bgcnt .n2) .lo data
  | rd8Bg2cnt0 => exact rd8At (.bgcnt .n2) .lo
  | wr8Bg2cnt1 data => exact wr8At (.bgcnt .n2) .hi data
  | rd8Bg2cnt1 => exact rd8At (.bgcnt .n2) .hi
  | wr16Bg2cnt data => exact wr16At (.bgcnt .n2) data
  | rd16Bg2cnt => exact rd16At (.bgcnt .n2)
  | wr8Bg3cnt0 data => exact wr8At (.bgcnt .n3) .lo data
  | rd8Bg3cnt0 => exact rd8At (.bgcnt .n3) .lo
  | wr8Bg3cnt1 data => exact wr8At (.bgcnt .n3) .hi data
  | rd8Bg3cnt1 => exact rd8At (.bgcnt .n3) .hi
  | wr16Bg3cnt data => exact wr16At (.bgcnt .n3) data
  | rd16Bg3cnt => exact rd16At (.bgcnt .n3)
  | wr8Bg0hofs0 data => exact wr8At (.bghofs .n0) .lo data
  | rd8Bg0hofs0 => exact rd8At (.bghofs .n0) .lo
  | wr8Bg0hofs1 data => exact wr8At (.bghofs .n0) .hi data
  | rd8Bg0hofs1 => exact rd8At (.bghofs .n0) .hi
  | wr16Bg0hofs data => exact wr16At (.bghofs .n0) data
  | rd16Bg0hofs => exact rd16At (.bghofs .n0)
  | wr8Bg0vofs0 data => exact wr8At (.bgvofs .n0) .lo data
  | rd8Bg0vofs0 => exact rd8At (.bgvofs .n0) .lo
  | wr8Bg0vofs1 data => exact wr8At (.bgvofs .n0) .hi data
  | rd8Bg0vofs1 => exact rd8At (.bgvofs .n0) .hi
  | wr16Bg0vofs data => exact wr16At (.bgvofs .n0) data
  | rd16Bg0vofs => exact rd16At (.bgvofs .n0)
  | wr8Bg1hofs0 data => exact wr8At (.bghofs .n1) .lo data
  | rd8Bg1hofs0 => exact rd8At (.bghofs .n1) .lo
  | wr8Bg1hofs1 data => exact wr8At (.bghofs .n1) .hi data
  | rd8Bg1hofs1 => exact rd8At (.bghofs .n1) .hi
  | wr16Bg1hofs data => exact wr16At (.bghofs .n1) data
  | rd16Bg1hofs => exact rd16At (.bghofs .n1)
  | wr8Bg1vofs0 data => exact wr8At (.bgvofs .n1) .lo data
  | rd8Bg1vofs0 => exact rd8At (.bgvofs .n1) .lo
  | wr8Bg1vofs1 data => exact wr8At (.bgvofs .n1) .hi data
  | rd8Bg1vofs1 => exact rd8At (.bgvofs .n1) .hi
  | wr16Bg1vofs data => exact wr16At (.bgvofs .n1) data
  | rd16Bg1vofs => exact rd16At (.bgvofs .n1)
  | wr8Bg2hofs0 data => exact wr8At (.bghofs .n2) .lo data
  | rd8Bg2hofs0 => exact rd8At (.bghofs .n2) .lo
  | wr8Bg2hofs1 data => exact wr8At (.bghofs .n2) .hi data
  | rd8Bg2hofs1 => exact rd8At (.bghofs .n2) .hi
  | wr16Bg2hofs data => exact wr16At (.bghofs .n2) data
  | rd16Bg2hofs => exact rd16At (.bghofs .n2)
  | wr8Bg2vofs0 data => exact wr8At (.bgvofs .n2) .lo data
  | rd8Bg2vofs0 => exact rd8At (.bgvofs .n2) .lo
  | wr8Bg2vofs1 data => exact wr8At (.bgvofs .n2) .hi data
  | rd8Bg2vofs1 => exact rd8At (.bgvofs .n2) .hi
  | wr16Bg2vofs data => exact wr16At (.bgvofs .n2) data
  | rd16Bg2vofs => exact rd16At (.bgvofs .n2)
  | wr8Bg3hofs0 data => exact wr8At (.bghofs .n3) .lo data
  | rd8Bg3hofs0 => exact rd8At (.bghofs .n3) .lo
  | wr8Bg3hofs1 data => exact wr8At (.bghofs .n3) .hi data
  | rd8Bg3hofs1 => exact rd8At (.bghofs .n3) .hi
  | wr16Bg3hofs data => exact wr16At (.bghofs .n3) data
  | rd16Bg3hofs => exact rd16At (.bghofs .n3)
  | wr8Bg3vofs0 data => exact wr8At (.bgvofs .n3) .lo data
  | rd8Bg3vofs0 => exact rd8At (.bgvofs .n3) .lo
  | wr8Bg3vofs1 data => exact wr8At (.bgvofs .n3) .hi data
  | rd8Bg3vofs1 => exact rd8At (.bgvofs .n3) .hi
  | wr16Bg3vofs data => exact wr16At (.bgvofs .n3) data
  | rd16Bg3vofs => exact rd16At (.bgvofs .n3)
  | wr8Bg2pa0 data => exact wr8At (.bgpa .n0) .lo data
  | rd8Bg2pa0 => exact rd8At (.bgpa .n0) .lo
  | wr8Bg2pa1 data => exact wr8At (.bgpa .n0) .hi data
  | rd8Bg2pa1 => exact rd8At (.bgpa .n0) .hi
  | wr16Bg2pa data => exact wr16At (.bgpa .n0) data
  | rd16Bg2pa => exact rd16At (.bgpa .n0)
  | wr8Bg2pb0 data => exact wr8At (.bgpb .n0) .lo data
  | rd8Bg2pb0 => exact rd8At (.bgpb .n0) .lo
  | wr8Bg2pb1 data => exact wr8At (.bgpb .n0) .hi data
  | rd8Bg2pb1 => exact rd8At (.bgpb .n0) .hi
  | wr16Bg2pb data => exact wr16At (.bgpb .n0) data
  | rd16Bg2pb => exact rd16At (.bgpb .n0)
  | wr8Bg2pc0 data => exact wr8At (.bgpc .n0) .lo data
  | rd8Bg2pc0 => exact rd8At (.bgpc .n0) .lo
  | wr8Bg2pc1 data => exact wr8At (.bgpc .n0) .hi data
  | rd8Bg2pc1 => exact rd8At (.bgpc .n0) .hi
  | wr16Bg2pc data => exact wr16At (.bgpc .n0) data
  | rd16Bg2pc => exact rd16At (.bgpc .n0)
  | wr8Bg2pd0 data => exact wr8At (.bgpd .n0) .lo data
  | rd8Bg2pd0 => exact rd8At (.bgpd .n0) .lo
  | wr8Bg2pd1 data => exact wr8At (.bgpd .n0) .hi data
  | rd8Bg2pd1 => exact rd8At (.bgpd .n0) .hi
  | wr16Bg2pd data => exact wr16At (.bgpd .n0) data
  | rd16Bg2pd => exact rd16At (.bgpd .n0)
  | wr8Bg2x0 data => exact wr8At (.bgxLow .n0) .lo data
  | rd8Bg2x0 => exact rd8At (.bgxLow .n0) .lo
  | wr8Bg2x1 data => exact wr8At (.bgxLow .n0) .hi data
  | rd8Bg2x1 => exact rd8At (.bgxLow .n0) .hi
  | wr8Bg2x2 data => exact wr8At (.bgxHigh .n0) .lo data
  | rd8Bg2x2 => exact rd8At (.bgxHigh .n0) .lo
  | wr8Bg2x3 data => exact wr8At (.bgxHigh .n0) .hi data
  | rd8Bg2x3 => exact rd8At (.bgxHigh .n0) .hi
  | wr16Bg2x0 data => exact wr16At (.bgxLow .n0) data
  | rd16Bg2x0 => exact rd16At (.bgxLow .n0)
  | wr16Bg2x2 data => exact wr16At (.bgxHigh .n0) data
  | rd16Bg2x2 => exact rd16At (.bgxHigh .n0)
  | wr8Bg2y0 data => exact wr8At (.bgyLow .n0) .lo data
  | rd8Bg2y0 => exact rd8At (.bgyLow .n0) .lo
  | wr8Bg2y1 data => exact wr8At (.bgyLow .n0) .hi data
  | rd8Bg2y1 => exact rd8At (.bgyLow .n0) .hi
  | wr8Bg2y2 data => exact wr8At (.bgyHigh .n0) .lo data
  | rd8Bg2y2 => exact rd8At (.bgyHigh .n0) .lo
  | wr8Bg2y3 data => exact wr8At (.bgyHigh .n0) .hi data
  | rd8Bg2y3 => exact rd8At (.bgyHigh .n0) .hi
  | wr16Bg2y0 data => exact wr16At (.bgyLow .n0) data
  | rd16Bg2y0 => exact rd16At (.bgyLow .n0)
  | wr16Bg2y2 data => exact wr16At (.bgyHigh .n0) data
  | rd16Bg2y2 => exact rd16At (.bgyHigh .n0)
  | wr8Bg3pa0 data => exact wr8At (.bgpa .n1) .lo data
  | rd8Bg3pa0 => exact rd8At (.bgpa .n1) .lo
  | wr8Bg3pa1 data => exact wr8At (.bgpa .n1) .hi data
  | rd8Bg3pa1 => exact rd8At (.bgpa .n1) .hi
  | wr16Bg3pa data => exact wr16At (.bgpa .n1) data
  | rd16Bg3pa => exact rd16At (.bgpa .n1)
  | wr8Bg3pb0 data => exact wr8At (.bgpb .n1) .lo data
  | rd8Bg3pb0 => exact rd8At (.bgpb .n1) .lo
  | wr8Bg3pb1 data => exact wr8At (.bgpb .n1) .hi data
  | rd8Bg3pb1 => exact rd8At (.bgpb .n1) .hi
  | wr16Bg3pb data => exact wr16At (.bgpb .n1) data
  | rd16Bg3pb => exact rd16At (.bgpb .n1)
  | wr8Bg3pc0 data => exact wr8At (.bgpc .n1) .lo data
  | rd8Bg3pc0 => exact rd8At (.bgpc .n1) .lo
  | wr8Bg3pc1 data => exact wr8At (.bgpc .n1) .hi data
  | rd8Bg3pc1 => exact rd8At (.bgpc .n1) .hi
  | wr16Bg3pc data => exact wr16At (.bgpc .n1) data
  | rd16Bg3pc => exact rd16At (.bgpc .n1)
  | wr8Bg3pd0 data => exact wr8At (.bgpd .n1) .lo data
  | rd8Bg3pd0 => exact rd8At (.bgpd .n1) .lo
  | wr8Bg3pd1 data => exact wr8At (.bgpd .n1) .hi data
  | rd8Bg3pd1 => exact rd8At (.bgpd .n1) .hi
  | wr16Bg3pd data => exact wr16At (.bgpd .n1) data
  | rd16Bg3pd => exact rd16At (.bgpd .n1)
  | wr8Bg3x0 data => exact wr8At (.bgxLow .n1) .lo data
  | rd8Bg3x0 => exact rd8At (.bgxLow .n1) .lo
  | wr8Bg3x1 data => exact wr8At (.bgxLow .n1) .hi data
  | rd8Bg3x1 => exact rd8At (.bgxLow .n1) .hi
  | wr8Bg3x2 data => exact wr8At (.bgxHigh .n1) .lo data
  | rd8Bg3x2 => exact rd8At (.bgxHigh .n1) .lo
  | wr8Bg3x3 data => exact wr8At (.bgxHigh .n1) .hi data
  | rd8Bg3x3 => exact rd8At (.bgxHigh .n1) .hi
  | wr16Bg3x0 data => exact wr16At (.bgxLow .n1) data
  | rd16Bg3x0 => exact rd16At (.bgxLow .n1)
  | wr16Bg3x2 data => exact wr16At (.bgxHigh .n1) data
  | rd16Bg3x2 => exact rd16At (.bgxHigh .n1)
  | wr8Bg3y0 data => exact wr8At (.bgyLow .n1) .lo data
  | rd8Bg3y0 => exact rd8At (.bgyLow .n1) .lo
  | wr8Bg3y1 data => exact wr8At (.bgyLow .n1) .hi data
  | rd8Bg3y1 => exact rd8At (.bgyLow .n1) .hi
  | wr8Bg3y2 data => exact wr8At (.bgyHigh .n1) .lo data
  | rd8Bg3y2 => exact rd8At (.bgyHigh .n1) .lo
  | wr8Bg3y3 data => exact wr8At (.bgyHigh .n1) .hi data
  | rd8Bg3y3 => exact rd8At (.bgyHigh .n1) .hi
  | wr16Bg3y0 data => exact wr16At (.bgyLow .n1) data
  | rd16Bg3y0 => exact rd16At (.bgyLow .n1)
  | wr16Bg3y2 data => exact wr16At (.bgyHigh .n1) data
  | rd16Bg3y2 => exact rd16At (.bgyHigh .n1)
  | wr8Win0h0 data => exact wr8At (.winh .n0) .lo data
  | rd8Win0h0 => exact rd8At (.winh .n0) .lo
  | wr8Win0h1 data => exact wr8At (.winh .n0) .hi data
  | rd8Win0h1 => exact rd8At (.winh .n0) .hi
  | wr16Win0h data => exact wr16At (.winh .n0) data
  | rd16Win0h => exact rd16At (.winh .n0)
  | wr8Win1h0 data => exact wr8At (.winh .n1) .lo data
  | rd8Win1h0 => exact rd8At (.winh .n1) .lo
  | wr8Win1h1 data => exact wr8At (.winh .n1) .hi data
  | rd8Win1h1 => exact rd8At (.winh .n1) .hi
  | wr16Win1h data => exact wr16At (.winh .n1) data
  | rd16Win1h => exact rd16At (.winh .n1)
  | wr8Win0v0 data => exact wr8At (.winv .n0) .lo data
  | rd8Win0v0 => exact rd8At (.winv .n0) .lo
  | wr8Win0v1 data => exact wr8At (.winv .n0) .hi data
  | rd8Win0v1 => exact rd8At (.winv .n0) .hi
  | wr16Win0v data => exact wr16At (.winv .n0) data
  | rd16Win0v => exact rd16At (.winv .n0)
  | wr8Win1v0 data => exact wr8At (.winv .n1) .lo data
  | rd8Win1v0 => exact rd8At (.winv .n1) .lo
  | wr8Win1v1 data => exact wr8At (.winv .n1) .hi data
  | rd8Win1v1 => exact rd8At (.winv .n1) .hi
  | wr16Win1v data => exact wr16At (.winv .n1) data
  | rd16Win1v => exact rd16At (.winv .n1)
  | wr8Winin0 data => exact wr8At .winin .lo data
  | rd8Winin0 => exact rd8At .winin .lo
  | wr8Winin1 data => exact wr8At .winin .hi data
  | rd8Winin1 => exact rd8At .winin .hi
  | wr16Winin data => exact wr16At .winin data
  | rd16Winin => exact rd16At .winin
  | wr8Winout0 data => exact wr8At .winout .lo data
  | rd8Winout0 => exact rd8At .winout .lo
  | wr8Winout1 data => exact wr8At .winout .hi data
  | rd8Winout1 => exact rd8At .winout .hi
  | wr16Winout data => exact wr16At .winout data
  | rd16Winout => exact rd16At .winout
  | wr8Mosaic0 data => exact wr8At .mosaic .lo data
  | rd8Mosaic0 => exact rd8At .mosaic .lo
  | wr8Mosaic1 data => exact wr8At .mosaic .hi data
  | rd8Mosaic1 => exact rd8At .mosaic .hi
  | wr16Mosaic data => exact wr16At .mosaic data
  | rd16Mosaic => exact rd16At .mosaic
  | wr8Bldcnt0 data => exact wr8At .bldcnt .lo data
  | rd8Bldcnt0 => exact rd8At .bldcnt .lo
  | wr8Bldcnt1 data => exact wr8At .bldcnt .hi data
  | rd8Bldcnt1 => exact rd8At .bldcnt .hi
  | wr16Bldcnt data => exact wr16At .bldcnt data
  | rd16Bldcnt => exact rd16At .bldcnt
  | wr8Bldalpha0 data => exact wr8At .bldalpha .lo data
  | rd8Bldalpha0 => exact rd8At .bldalpha .lo
  | wr8Bldalpha1 data => exact wr8At .bldalpha .hi data
  | rd8Bldalpha1 => exact rd8At .bldalpha .hi
  | wr16Bldalpha data => exact wr16At .bldalpha data
  | rd16Bldalpha => exact rd16At .bldalpha
  | wr8Bldy0 data => exact wr8At .bldy .lo data
  | rd8Bldy0 => exact rd8At .bldy .lo
  | wr8Bldy1 data => exact wr8At .bldy .hi data
  | rd8Bldy1 => exact rd8At .bldy .hi
  | wr16Bldy data => exact wr16At .bldy data
  | rd16Bldy => exact rd16At .bldy
  | wr8Tm0cntL0 data => exact wr8At (.tmcntL .n0) .lo data
  | rd8Tm0cntL0 => exact rd8At (.tmcntL .n0) .lo
  | wr8Tm0cntL1 data => exact wr8At (.tmcntL .n0) .hi data
  | rd8Tm0cntL1 => exact rd8At (.tmcntL .n0) .hi
  | wr16Tm0cntL data => exact wr16At (.tmcntL .n0) data
  | rd16Tm0cntL => exact rd16At (.tmcntL .n0)
  | wr8Tm0cntH0 data => exact wr8At (.tmcntH .n0) .lo data
  | rd8Tm0cntH0 => exact rd8At (.tmcntH .n0) .lo
  | wr8Tm0cntH1 data => exact wr8At (.tmcntH .n0) .hi data
  | rd8Tm0cntH1 => exact rd8At (.tmcntH .n0) .hi
  | wr16Tm0cntH data => exact wr16At (.tmcntH .n0) data
  | rd16Tm0cntH => exact rd16At (.tmcntH .n0)
  | wr8Tm1cntL0 data => exact wr8At (.tmcntL .n1) .lo data
  | rd8Tm1cntL0 => exact rd8At (.tmcntL .n1) .lo
  | wr8Tm1cntL1 data => exact wr8At (.tmcntL .n1) .hi data
  | rd8Tm1cntL1 => exact rd8At (.tmcntL .n1) .hi
  | wr16Tm1cntL data => exact wr16At (.tmcntL .n1) data
  | rd16Tm1cntL => exact rd16At (.tmcntL .n1)
  | wr8Tm1cntH0 data => exact wr8At (.tmcntH .n1) .lo data
  | rd8Tm1cntH0 => exact rd8At (.tmcntH .n1) .lo
  | wr8Tm1cntH1 data => exact wr8At (.tmcntH .n1) .hi data
  | rd8Tm1cntH1 => exact rd8At (.tmcntH .n1) .hi
  | wr16Tm1cntH data => exact wr16At (.tmcntH .n1) data
  | rd16Tm1cntH => exact rd16At (.tmcntH .n1)
  | wr8Tm2cntL0 data => exact wr8At (.tmcntL .n2) .lo data
  | rd8Tm2cntL0 => exact rd8At (.tmcntL .n2) .lo
  | wr8Tm2cntL1 data => exact wr8At (.tmcntL .n2) .hi data
  | rd8Tm2cntL1 => exact rd8At (.tmcntL .n2) .hi
  | wr16Tm2cntL data => exact wr16At (.tmcntL .n2) data
  | rd16Tm2cntL => exact rd16At (.tmcntL .n2)
  | wr8Tm2cntH0 data => exact wr8At (.tmcntH .n2) .lo data
  | rd8Tm2cntH0 => exact rd8At (.tmcntH .n2) .lo
  | wr8Tm2cntH1 data => exact wr8At (.tmcntH .n2) .hi data
  | rd8Tm2cntH1 => exact rd8At (.tmcntH .n2) .hi
  | wr16Tm2cntH data => exact wr16At (.tmcntH .n2) data
  | rd16Tm2cntH => exact rd16At (.tmcntH .n2)
  | wr8Tm3cntL0 data => exact wr8At (.tmcntL .n3) .lo data
  | rd8Tm3cntL0 => exact rd8At (.tmcntL .n3) .lo
  | wr8Tm3cntL1 data => exact wr8At (.tmcntL .n3) .hi data
  | rd8Tm3cntL1 => exact rd8At (.tmcntL .n3) .hi
  | wr16Tm3cntL data => exact wr16At (.tmcntL .n3) data
  | rd16Tm3cntL => exact rd16At (.tmcntL .n3)
  | wr8Tm3cntH0 data => exact wr8At (.tmcntH .n3) .lo data
  | rd8Tm3cntH0 => exact rd8At (.tmcntH .n3) .lo
  | wr8Tm3cntH1 data => exact wr8At (.tmcntH .n3) .hi data
  | rd8Tm3cntH1 => exact rd8At (.tmcntH .n3) .hi
  | wr16Tm3cntH data => exact wr16At (.tmcntH .n3) data
  | rd16Tm3cntH => exact rd16At (.tmcntH .n3)
  | rd8Pram offset => exact ten offset ▸ rd8Mem .pram offset.toNat offset.isLt
  | rd16Pram offset => exact ten offset ▸ rd16Mem .pram offset.toNat offset.isLt
  | wr8Pram offset data => exact ten offset ▸ wr8Mem .pram offset.toNat data offset.isLt
  | wr16Pram offset data => exact ten offset ▸ wr16Mem .pram offset.toNat data offset.isLt
  | rd8VramLo offset => exact rd8Mem_vramLo offset ▸ rd8Mem .vram offset.toNat (lo offset)
  | rd16VramLo offset => exact rd16Mem_vramLo offset ▸ rd16Mem .vram offset.toNat (lo offset)
  | wr8VramLo offset data => exact wr8Mem_vramLo offset data ▸ wr8Mem .vram offset.toNat data (lo offset)
  | wr16VramLo offset data => exact wr16Mem_vramLo offset data ▸ wr16Mem .vram offset.toNat data (lo offset)
  | rd8VramHi offset => exact rd8Mem_vramHi offset ▸ rd8Mem .vram (0x10000 + offset.toNat) (hi offset)
  | rd16VramHi offset => exact rd16Mem_vramHi offset ▸ rd16Mem .vram (0x10000 + offset.toNat) (hi offset)
  | wr8VramHi offset data => exact wr8Mem_vramHi offset data ▸ wr8Mem .vram (0x10000 + offset.toNat) data (hi offset)
  | wr16VramHi offset data => exact wr16Mem_vramHi offset data ▸ wr16Mem .vram (0x10000 + offset.toNat) data (hi offset)
  | rd8Oam offset => exact ten offset ▸ rd8Mem .oam offset.toNat offset.isLt
  | rd16Oam offset => exact ten offset ▸ rd16Mem .oam offset.toNat offset.isLt
  | wr8Oam offset data => exact ten offset ▸ wr8Mem .oam offset.toNat data offset.isLt
  | wr16Oam offset data => exact ten offset ▸ wr16Mem .oam offset.toNat data offset.isLt
  | eScanline late => exact event .scanline late
  | eHblanksearch late => exact event .hblankSearch late
  | eHblank late => exact event .hblank late
  | eVblankscanline late => exact event .vblankScanline late
  | eVblankhblank late => exact event .vblankHblank late
  | eReserved5 => exact event .code5 0
  | eReserved6 => exact event .code6 0
  | eReserved7 => exact event .code7 0

end Sys2Proof.Machine
end

