-- ==== Sys2Proof/Laws/Bus.lean ====
section
/-! SUPPORT. Laws/Bus.lean: what a bus command may write, and the next states of exec. -/

namespace Sys2Proof.Machine

/-- Inside its region (R81). -/
def Loc.valid : Loc → Prop
  | .reg _ _ => True
  | .mem sp off => off < Config.spaceSize sp

/-- A read leaves the value and counts draws. -/
theorem busRead8_cases (l : Loc) (s : State) (h : l.valid) : ∃ r n, busRead8 l s = { s with readout := r, draws := n } := by
  unfold busRead8
  split
  · exact ⟨_, _, rfl⟩
  · cases l with
    | reg r lane =>
      simp only [readByteAt]
      split
      · exact ⟨_, s.draws, rfl⟩
      · exact ⟨_, _, rfl⟩
    | mem sp off =>
      have := memRead8_of_lt s sp off h
      simp only [readByteAt, this]
      exact ⟨_, s.draws, rfl⟩

/-- A halfword read leaves the value, counts draws, and may record `F_MISALIGNED` (R83). -/
theorem busRead16_cases (l : Loc) (s : State) (h : l.valid) (h' : l.odd = false → l.above.valid) :
   ∃ r n f, busRead16 l s = { s with readout := r, draws := n, fault := f } ∧ (f = s.fault ∨ (s.fault = none ∧ l.odd = true ∧ f = some .misaligned)) := by
  unfold busRead16
  split
  · exact ⟨_, _, _, rfl, .inl rfl⟩
  · rename_i hf
    have hf : s.fault = none := by by_contra hc; exact hf (faulted_of_some _ hc)
    split
    · rename_i ho
      rw [raiseFault_of_none _ _ hf]
      exact ⟨_, _, _, rfl, .inr ⟨hf, ho, rfl⟩⟩
    · rename_i ho
      have h' := h' (by simpa using ho)
      cases l with
      | reg r lane =>
        simp only [readByteAt, Loc.above]
        split <;> split <;> exact ⟨_, _, _, rfl, .inl rfl⟩
      | mem sp off =>
        have h1 := memRead8_of_lt s sp off h
        have h2 := memRead8_of_lt s sp (off + 1) h'
        simp only [readByteAt, Loc.above, h1, h2]
        exact ⟨_, _, _, rfl, .inl rfl⟩

theorem above_valid_mem (sp off) (h : (Loc.mem sp off).valid) : (Loc.mem sp off).odd = false → (Loc.mem sp off).above.valid := by
  intro ho
  simp only [Loc.odd, decide_eq_false_iff_not] at ho
  simp only [Loc.above, Loc.valid] at *
  cases sp <;> simp only [Config.spaceSize] at * <;> omega


/-- What a bus command keeps (R275), the growing trace, and the two invariants it keeps. -/
def BusWrites (s t : State) : Prop :=
  t.sched = s.sched ∧ t.ppu = s.ppu ∧ (t.fault = s.fault ∨ (s.fault = none ∧ t.fault = some .misaligned)) ∧
  t.params = s.params ∧ t.input = s.input ∧ (∃ new, t.out = s.out ++ new) ∧ (StorageInv s → StorageInv t) ∧ (TimersInv s → TimersInv t)

theorem BusWrites.ro (s r n f) (h : f = s.fault ∨ (s.fault = none ∧ f = some .misaligned)) : BusWrites s { s with readout := r, draws := n, fault := f } :=
  ⟨rfl, rfl, h, rfl, rfl, ⟨[], by simp⟩, id, id⟩

theorem BusWrites.ro' (s r n) : BusWrites s { s with readout := r, draws := n } :=
  ⟨rfl, rfl, .inl rfl, rfl, rfl, ⟨[], by simp⟩, id, id⟩

theorem BusWrites.refl (s) : BusWrites s s := ⟨rfl, rfl, .inl rfl, rfl, rfl, ⟨[], by simp⟩, id, id⟩

theorem BusWrites.trans {s t u} (h : BusWrites s t) (ht : t.fault = s.fault) (k : BusWrites t u) : BusWrites s u := by
  obtain ⟨a, b, c, d, e, ⟨n, f⟩, g, h⟩ := h
  obtain ⟨a', b', c', d', e', ⟨n', f'⟩, g', h'⟩ := k
  exact ⟨a'.trans a, b'.trans b, by rw [ht] at c'; exact c', d'.trans d, e'.trans e, ⟨n ++ n', by rw [f', f]; simp⟩, g' ∘ g, h' ∘ h⟩

theorem control_settled (t : Timer) (v c) (h : t.settled) : (t.control v c).settled := by
  unfold Timer.control Timer.settled at *; simp only; split
  · cases c
    · exact h
    · exact ⟨h.1, by simp, by simp⟩
  · exact h

theorem BusWrites.wreg (r lane v s) : BusWrites s (writeReg r lane v s) ∧ (writeReg r lane v s).fault = s.fault := by
  have dflt : ∀ t : State, t.sched = s.sched → t.ppu = s.ppu → t.fault = s.fault → t.params = s.params → t.input = s.input → t.out = s.out → t.tm = s.tm → t.pram = s.pram → t.oam = s.oam → t.vram = s.vram → t.frame = s.frame → BusWrites s t ∧ t.fault = s.fault := by
    intro t h1 h2 h3 h4 h5 h6 h7 h8 h9 h10 h11
    refine ⟨⟨h1, h2, .inl h3, h4, h5, ⟨[], by simp [h6]⟩, ?_, ?_⟩, h3⟩
    · unfold StorageInv; rw [h8, h9, h10, h11]; exact id
    · unfold TimersInv; rw [h7]; exact id
  cases r
  case dispcnt => cases lane <;> simp only [writeReg, writeDispcntLow] <;> (try split) <;> exact dflt _ rfl rfl rfl rfl rfl rfl rfl rfl rfl rfl rfl
  case tmcntH n =>
    cases lane
    · refine ⟨⟨rfl, rfl, .inl rfl, rfl, rfl, ⟨[], by simp [writeReg, writeTimerControl, setTimer]⟩, id, ?_⟩, rfl⟩
      rintro ⟨h0, h1, h2, h3⟩
      cases n
      · exact ⟨control_settled _ _ _ h0, h1, h2, h3⟩
      · exact ⟨h0, control_settled _ _ _ h1, h2, h3⟩
      · exact ⟨h0, h1, control_settled _ _ _ h2, h3⟩
      · exact ⟨h0, h1, h2, control_settled _ _ _ h3⟩
    · exact dflt _ rfl rfl rfl rfl rfl rfl rfl rfl rfl rfl rfl
  case tmcntL n =>
    refine ⟨⟨rfl, rfl, .inl rfl, rfl, rfl, ⟨[], by simp [writeReg, writeTimerReload, setTimer]⟩, id, ?_⟩, rfl⟩
    rintro ⟨h0, h1, h2, h3⟩
    cases n <;> exact ⟨h0, h1, h2, h3⟩
  all_goals cases lane <;> exact dflt _ rfl rfl rfl rfl rfl rfl rfl rfl rfl rfl rfl

theorem BusWrites.after (l s) : BusWrites s (afterWrite l s) := by
  unfold afterWrite
  split
  · split
    · refine ⟨by simp, by simp, by simp, by simp, by simp, by simp, ?_, ?_⟩
      · unfold StorageInv; simp only [evalVCount_pram, evalVCount_oam, evalVCount_vram, evalVCount_frame]; exact id
      · unfold TimersInv; simp only [evalVCount_tm]; exact id
    · exact .refl s
  · exact .refl s

theorem BusWrites.mem (sp off v s) (h : off < Config.spaceSize sp) : BusWrites s (memWrite8 sp off v s) ∧ (memWrite8 sp off v s).fault = s.fault := by
  rw [memWrite8_of_lt _ _ _ _ h]
  refine ⟨⟨by simp, by simp, by simp, by cases sp <;> rfl, by cases sp <;> rfl, by cases sp <;> exact ⟨[], by simp [State.setMem]⟩, ?_, ?_⟩, by simp⟩
  · rintro ⟨a, b, c, d, e, f, g⟩
    cases sp
    · exact ⟨wf_write _ _ _ a, within_write _ _ _ _ h b, c, d, e, f, g⟩
    · exact ⟨a, b, wf_write _ _ _ c, within_write _ _ _ _ h d, e, f, g⟩
    · exact ⟨a, b, c, d, wf_write _ _ _ e, within_write _ _ _ _ h f, g⟩
  · cases sp <;> exact id

theorem BusWrites.at (l : Loc) (v s) (h : l.valid) : BusWrites s (writeByteAt l v s) ∧ (writeByteAt l v s).fault = s.fault := by
  cases l
  · exact BusWrites.wreg _ _ _ _
  · exact BusWrites.mem _ _ _ _ h

theorem above_valid (l : Loc) (h : l.valid) (ho : l.odd = false) : l.above.valid := by
  cases l
  · trivial
  · exact above_valid_mem _ _ h ho

theorem BusWrites.w8 (l v s) (h : Loc.valid l) : BusWrites s (busWrite8 l v s) := by
  unfold busWrite8; split
  · exact .refl s
  · exact BusWrites.trans (BusWrites.at l v s h).1 (BusWrites.at l v s h).2 (.after _ _)

theorem BusWrites.w16 (l v s) (h : Loc.valid l) : BusWrites s (busWrite16 l v s) := by
  unfold busWrite16; split
  · exact .refl s
  · rename_i hf; have hf : s.fault = none := by by_contra hc; exact hf (faulted_of_some _ hc)
    split
    · rw [raiseFault_of_none _ _ hf]
      exact BusWrites.ro s s.readout s.draws _ (.inr ⟨hf, rfl⟩)
    · rename_i ho
      have ha := above_valid l h (by simpa using ho)
      obtain ⟨h1, h2⟩ := BusWrites.at l (laneOf v .lo) s h
      obtain ⟨h3, h4⟩ := BusWrites.at l.above (laneOf v .hi) (writeByteAt l (laneOf v .lo) s) ha
      exact BusWrites.trans (h1.trans h2 h3) (h4.trans h2) (.after _ _)

theorem BusWrites.r8 (l s) (h : Loc.valid l) : BusWrites s (busRead8 l s) := by
  obtain ⟨r, n, e⟩ := busRead8_cases l s h; rw [e]; exact .ro' _ _ _

theorem BusWrites.r16 (l s) (h : Loc.valid l) : BusWrites s (busRead16 l s) := by
  obtain ⟨r, n, f, e, hf⟩ := busRead16_cases l s h (above_valid l h); rw [e]
  exact .ro _ _ _ _ (by rcases hf with h | ⟨h, _, h'⟩; exacts [.inl h, .inr ⟨h, h'⟩])

theorem valid_of_decodeAddr (a l) (h : decodeAddr a = some l) : l.valid := by
  cases l
  · trivial
  · exact (decodeAddr_some_mem _ _ _ h).1

/-- Every next state of exec comes from a bus command, RST, ADV or a phase event. -/
theorem exec_cases (i : Instr) : ∀ (s t : State), exec i s = .next t →
    BusWrites s t ∨ i = .rst ∨ (∃ d, i = .adv d) ∨ ∃ p late, i = eventOf p late := by
  refine instr_forms (fun i => ∀ (s t : State), exec i s = .next t →
    BusWrites s t ∨ i = .rst ∨ (∃ d, i = .adv d) ∨ ∃ p late, i = eventOf p late) ?_ ?_ ?_ ?_ ?_ ?_ ?_ ?_ ?_ ?_ ?_ ?_ ?_ ?_ ?_ i
  · intro d s t h; exact .inr (.inr (.inl ⟨d, rfl⟩))
  · intro s t h; exact .inr (.inl rfl)
  · intro a s t h
    simp only [exec, execRd8] at h
    split at h
    · cases h; exact .inl (.ro' _ _ _)
    · split at h
      · cases h
      · cases h; exact .inl (.r8 _ _ (valid_of_decodeAddr _ _ ‹_›))
  · intro a s t h
    simp only [exec, execRd16] at h
    split at h
    · cases h; exact .inl (.ro' _ _ _)
    · split at h
      · cases h
      · cases h; exact .inl (.r16 _ _ (valid_of_decodeAddr _ _ ‹_›))
  · intro a v s t h
    simp only [exec, execWr8] at h
    split at h
    · cases h; exact .inl (.refl _)
    · split at h
      · cases h
      · cases h; exact .inl (.w8 _ _ _ (valid_of_decodeAddr _ _ ‹_›))
  · intro a v s t h
    simp only [exec, execWr16] at h
    split at h
    · cases h; exact .inl (.refl _)
    · split at h
      · cases h
      · cases h; exact .inl (.w16 _ _ _ (valid_of_decodeAddr _ _ ‹_›))
  · intro r l s t h; rw [exec_rd8At] at h; cases h; exact .inl (.r8 _ _ trivial)
  · intro r s t h; rw [exec_rd16At] at h; cases h; exact .inl (.r16 _ _ trivial)
  · intro r l v s t h; rw [exec_wr8At] at h; cases h; exact .inl (.w8 _ _ _ trivial)
  · intro r v s t h; rw [exec_wr16At] at h; cases h; exact .inl (.w16 _ _ _ trivial)
  · intro sp off hb s t h; rw [exec_rd8Mem _ _ _ hb] at h; cases h; exact .inl (.r8 _ _ hb)
  · intro sp off hb s t h; rw [exec_rd16Mem _ _ _ hb] at h; cases h; exact .inl (.r16 _ _ hb)
  · intro sp off v hb s t h; rw [exec_wr8Mem _ _ _ _ hb] at h; cases h; exact .inl (.w8 _ _ _ hb)
  · intro sp off v hb s t h; rw [exec_wr16Mem _ _ _ _ hb] at h; cases h; exact .inl (.w16 _ _ _ hb)
  · intro p l s t h; exact .inr (.inr (.inr ⟨p, l, rfl⟩))

/-- A phase event is one dispatch, or nothing where a fault is recorded (R176, R441). -/
theorem exec_eventOf (p late s) (h : exec (eventOf p late) s = .next t) : (s.fault ≠ none ∧ t = s) ∨ (s.fault = none ∧ ∃ l, t = dispatchEvent p l s) := by
  have : ∃ l, exec (eventOf p late) s = .next (runOps [dispatchEvent p l] s) := by
    cases p <;> exact ⟨late.toInt, rfl⟩
  obtain ⟨l, hl⟩ := this
  rw [hl] at h; cases h
  by_cases hf : s.fault = none
  · right; rw [runOps_cons _ _ _ hf, runOps_nil]; exact ⟨hf, l, rfl⟩
  · left; rw [runOps_of_fault _ _ hf]; exact ⟨hf, rfl⟩

/-- ADV: nothing where a fault is recorded, else the timers and then the due events (R175). -/
theorem exec_adv_cases (d : BitVec 32) (s t) (h : exec (.adv d) s = .next t) : (s.fault ≠ none ∧ t = s) ∨ (s.fault = none ∧ s.sched.now.toNat + d.toNat < 2 ^ 64 ∧ t = advance (timerRun d.toNat (addCycles d.toNat s))) := by
  simp only [exec, execAdv] at h
  split at h
  · cases h
  · split at h
    · cases h; exact .inl ⟨(faulted_eq _).1 ‹_›, rfl⟩
    · split at h
      · cases h
      · cases h; rename_i hf hl
        exact .inr ⟨by by_contra hc; exact hf (faulted_of_some _ hc), by omega, rfl⟩

end Sys2Proof.Machine
end

