-- ==== Sys2Proof/Laws/Frames.lean ====
section
/-! SUPPORT. Laws/Frames.lean: what the phase events may write. -/

namespace Sys2Proof.Machine

/-- What a phase event, and the loop of due events, may write (R74): the sequencer, the three status flags, the mosaic
counters, the accumulators, the frame, the fault record and, growing, the trace. -/

def DisplayWrites (s t : State) : Prop :=
  (∃ new, t.out = s.out ++ new) ∧
  t = { s with
    sched := { t.sched with now := s.sched.now }
    ppu := t.ppu
    dispstat := { s.dispstat with
      vblankFlag := t.dispstat.vblankFlag, hblankFlag := t.dispstat.hblankFlag, vcountFlag := t.dispstat.vcountFlag }
    mosaic := ⟨{ s.mosaic.bg with counterY := t.mosaic.bg.counterY }, { s.mosaic.obj with counterY := t.mosaic.obj.counterY }⟩
    bgx := ⟨{ s.bgx.e0 with current := t.bgx.e0.current }, { s.bgx.e1 with current := t.bgx.e1.current }⟩
    bgy := ⟨{ s.bgy.e0 with current := t.bgy.e0.current }, { s.bgy.e1 with current := t.bgy.e1.current }⟩
    frame := t.frame, draws := t.draws, fault := t.fault, out := t.out }

theorem DisplayWrites.refl (s : State) : DisplayWrites s s := ⟨⟨[], by simp⟩, rfl⟩

theorem DisplayWrites.trans {s t u : State} (h : DisplayWrites s t) (k : DisplayWrites t u) : DisplayWrites s u := by
  obtain ⟨⟨n, hn⟩, h⟩ := h
  obtain ⟨⟨m, hm⟩, k⟩ := k
  refine ⟨⟨n ++ m, by rw [hm, hn]; simp⟩, ?_⟩
  conv_lhs => rw [k]
  rw [h]

theorem DisplayWrites.runOps {fs : List (State → State)} (h : ∀ f ∈ fs, ∀ s, DisplayWrites s (f s)) (s : State) : DisplayWrites s (runOps fs s) := by
  induction fs generalizing s with
  | nil => exact .refl s
  | cons f fs ih =>
    unfold Machine.runOps; split
    · exact .refl s
    · exact (h f (by simp) s).trans (ih (fun g hg => h g (by simp [hg])) _)

theorem displayWrites_raiseFault (c s) : DisplayWrites s (raiseFault c s) := by
  unfold raiseFault; split
  · exact ⟨⟨[], by simp⟩, rfl⟩
  · exact .refl s

theorem displayWrites_emit (w f s) : DisplayWrites s (emit w f s) := ⟨⟨_, rfl⟩, rfl⟩

theorem displayWrites_raiseIf (b w f s) : DisplayWrites s (raiseIf b w f s) := by
  unfold raiseIf; split
  · exact displayWrites_emit _ _ _
  · exact .refl s

theorem displayWrites_schedAdd (d t s) : DisplayWrites s (schedAdd d t s) := by
  unfold schedAdd; split
  · exact displayWrites_raiseFault _ _
  · exact ⟨⟨[], by simp⟩, rfl⟩

theorem displayWrites_nextPhase (p l s) : DisplayWrites s (nextPhase p l s) :=
  DisplayWrites.trans (t := { s with ppu := { s.ppu with phase := p } }) ⟨⟨[], by simp⟩, rfl⟩ (displayWrites_schedAdd _ _ _)

theorem displayWrites_setHblankFlag (b s) : DisplayWrites s (setHblankFlag b s) := ⟨⟨[], by simp [setHblankFlag]⟩, rfl⟩

theorem displayWrites_setVblankFlag (b s) : DisplayWrites s (setVblankFlag b s) := ⟨⟨[], by simp [setVblankFlag]⟩, rfl⟩

theorem displayWrites_setVcount (b s) : DisplayWrites s (setVcount b s) := ⟨⟨[], by simp [setVcount]⟩, rfl⟩

theorem displayWrites_evalVCount (f s) : DisplayWrites s (evalVCount f s) := by
  unfold evalVCount
  exact (displayWrites_raiseIf _ _ _ _).trans ⟨⟨[], by simp⟩, rfl⟩

theorem displayWrites_reloadAffine (s) : DisplayWrites s (reloadAffine s) := ⟨⟨[], by simp [reloadAffine]⟩, rfl⟩

theorem displayWrites_updateAffine (s) : DisplayWrites s (updateAffine s) := by
  unfold updateAffine; split
  · exact displayWrites_reloadAffine s
  · exact ⟨⟨[], by simp⟩, rfl⟩

/-- The sizes stay (R200). -/
theorem mosaicGroup_advance_eq (g : MosaicGroup) : g.advance = { g with counterY := g.advance.counterY } := by
  unfold MosaicGroup.advance; split <;> rfl

theorem displayWrites_advanceMosaic (s) : DisplayWrites s (advanceMosaic s) := by
  refine ⟨⟨[], by simp [advanceMosaic]⟩, ?_⟩
  unfold advanceMosaic
  conv_lhs => rw [mosaicGroup_advance_eq s.mosaic.bg, mosaicGroup_advance_eq s.mosaic.obj]

theorem displayWrites_clearMosaic (s) : DisplayWrites s (clearMosaic s) := ⟨⟨[], by simp [clearMosaic]⟩, rfl⟩

theorem displayWrites_writeRow (y r s) : DisplayWrites s (writeRow y r s) := ⟨⟨[], by simp [writeRow]⟩, rfl⟩

theorem displayWrites_renderScanline (s) : DisplayWrites s (renderScanline s) := by
  unfold renderScanline; simp only
  split
  · exact displayWrites_raiseFault _ _
  · split
    · exact displayWrites_writeRow _ _ _
    · split
      · exact DisplayWrites.trans (t := (drawRow s).2) ⟨⟨[], by simp [drawRow]⟩, rfl⟩ (displayWrites_writeRow _ _ _)
      · split
        · exact displayWrites_raiseFault _ _
        · exact displayWrites_writeRow _ _ _

/-- A phase event writes nothing but the display's own state. -/
theorem displayWrites_dispatchEvent (p l s) : DisplayWrites s (dispatchEvent p l s) := by
  cases p
  · exact .runOps (by
      intro f hf; simp at hf
      rcases hf with rfl | rfl | rfl <;> intro s
      · exact displayWrites_nextPhase _ _ _
      · exact displayWrites_raiseIf _ _ _ _
      · exact displayWrites_renderScanline s) s
  · exact .runOps (by
      intro f hf; simp at hf
      rcases hf with rfl | rfl | rfl | rfl <;> intro s
      · exact displayWrites_nextPhase _ _ _
      · exact displayWrites_emit _ _ _
      · unfold requestVideoFromLine2; split
        · exact displayWrites_emit _ _ _
        · exact .refl s
      · exact displayWrites_setHblankFlag _ _) s
  · have hb : ∀ l f s, DisplayWrites s (hblankBranch l f s) := by
      intro l f s
      unfold hblankBranch; split
      · exact .runOps (by
          intro f hf; simp at hf
          rcases hf with rfl | rfl | rfl | rfl | rfl | rfl <;> intro s
          · exact displayWrites_emit _ _ _
          · exact displayWrites_nextPhase _ _ _
          · exact displayWrites_emit _ _ _
          · exact displayWrites_setVblankFlag _ _
          · exact displayWrites_raiseIf _ _ _ _
          · exact displayWrites_clearMosaic _) s
      · exact .runOps (by
          intro f hf; simp at hf
          rcases hf with rfl | rfl <;> intro s
          · exact displayWrites_advanceMosaic _
          · exact displayWrites_nextPhase _ _ _) s
    exact .runOps (by
      intro f hf; simp at hf
      rcases hf with rfl | rfl | rfl | rfl | rfl <;> intro s
      · exact displayWrites_setHblankFlag _ _
      · exact displayWrites_setVcount _ _
      · exact displayWrites_evalVCount _ _
      · exact hb _ _ _
      · exact displayWrites_updateAffine s) s
  · exact .runOps (by
      intro f hf; simp at hf
      rcases hf with rfl | rfl | rfl | rfl <;> intro s
      · exact displayWrites_nextPhase _ _ _
      · exact displayWrites_setHblankFlag _ _
      · unfold blankingRequests; split
        · exact displayWrites_emit _ _ _
        · split
          · exact displayWrites_emit _ _ _
          · exact .refl s
      · exact displayWrites_raiseIf _ _ _ _) s
  · have hb : ∀ l s, DisplayWrites s (vblankBranch l s) := by
      intro l s
      unfold vblankBranch; split
      · exact .runOps (by
          intro f hf; simp at hf
          rcases hf with rfl | rfl <;> intro s
          · exact displayWrites_setVcount _ _
          · exact displayWrites_nextPhase _ _ _) s
      · exact .runOps (by
          intro f hf; simp at hf
          rcases hf with rfl | rfl | rfl <;> intro s
          · exact displayWrites_nextPhase _ _ _
          · unfold clearVblankAtLine226; split
            · exact displayWrites_setVblankFlag _ _
            · exact .refl s
          · exact displayWrites_setVcount _ _) s
    exact .runOps (by
      intro f hf; simp at hf
      rcases hf with rfl | rfl | rfl <;> intro s
      · exact displayWrites_setHblankFlag _ _
      · exact hb _ _
      · exact displayWrites_evalVCount _ _) s
  · exact displayWrites_raiseFault _ _
  · exact displayWrites_raiseFault _ _
  · exact displayWrites_raiseFault _ _

theorem displayWrites_advanceLoop (n s) : DisplayWrites s (advanceLoop n s) := by
  induction n generalizing s with
  | zero => exact .refl s
  | succ n ih =>
    unfold advanceLoop; split
    · exact .refl s
    · split
      · exact .refl s
      · split
        · refine DisplayWrites.trans (t := popEvent s) ⟨⟨[], by simp [popEvent]⟩, rfl⟩ (.trans (displayWrites_dispatchEvent _ _ _) (ih _))
        · exact .refl s

theorem displayWrites_advance (s) : DisplayWrites s (advance s) := displayWrites_advanceLoop _ s

/-- What it leaves alone, of the fields most used. -/
theorem DisplayWrites.keeps {s t} (h : DisplayWrites s t) : t.tm = s.tm ∧ t.params = s.params ∧ t.input = s.input ∧ t.sched.now = s.sched.now ∧ t.readout = s.readout := by
  obtain ⟨_, h⟩ := h; rw [h]; exact ⟨rfl, rfl, rfl, rfl, rfl⟩

end Sys2Proof.Machine
end

