-- ==== Sys2Proof/Laws/Renderer.lean ====
section
/-! SUPPORT. Laws/Renderer.lean: the fetches of the renderer stay inside their arrays (R97) and what each gives; the object
row's fold; the sorted candidates. -/

namespace Sys2Proof.Machine

theorem bgColor_some (s : State) (i : Nat) (h : i < 256) : ∃ c, bgColor s i = some c := by
  simp [bgColor, memRead16_of_lt s .pram (2*i) (by simp [Config.spaceSize]; omega)]

theorem objColor_some (s : State) (i : Nat) (h : i < 256) : ∃ c, objColor s i = some c := by
  simp [objColor, memRead16_of_lt s .pram (0x200 + 2*i) (by simp [Config.spaceSize]; omega)]

theorem bgFetch8_some (s off) : ∃ c, bgFetch8 s off = some c := by
  unfold bgFetch8; split
  · rw [memRead8_of_lt _ _ _ (by simp [Config.spaceSize]; omega)]; simp
  · simp

theorem bgFetch16_some (s off) : ∃ c, bgFetch16 s off = some c := by
  unfold bgFetch16; split
  · rw [memRead16_of_lt _ _ _ (by simp [Config.spaceSize]; omega)]; simp
  · simp

theorem bgIndexed_some (s i j) (h : i ≠ 0 → j < 256) : ∃ c, bgIndexed s i j = some c := by
  unfold bgIndexed; split
  · simp
  · obtain ⟨c, hc⟩ := bgColor_some s j (h ‹_›); simp [hc]

theorem nibble_lt (b k) : nibble b k < 16 := by
  unfold nibble; split <;> exact BitVec.isLt _

theorem textPixel_some (s c px py) : ∃ d, textPixel s c px py = some d := by
  unfold textPixel
  obtain ⟨e, he⟩ := bgFetch16_some s (c.mapBase + 0x800 * screenBlock c.size px py + 64 * (py % 256 / 8) + 2 * (px % 256 / 8))
  simp only [he, Option.bind_eq_bind, Option.bind_some]
  split
  · obtain ⟨b, hb⟩ := bgFetch8_some s (c.tileBase + 64 * (BitVec.extractLsb' 0 10 e).toNat + 8 * (if e.getLsbD 11 = true then 7 - py % 8 else py % 8) + if e.getLsbD 10 = true then 7 - px % 8 else px % 8)
    rw [hb]; simp only [Option.bind_some]
    exact bgIndexed_some _ _ _ (fun _ => b.isLt)
  · obtain ⟨b, hb⟩ := bgFetch8_some s (c.tileBase + 32 * (BitVec.extractLsb' 0 10 e).toNat + 4 * (if e.getLsbD 11 = true then 7 - py % 8 else py % 8) + (if e.getLsbD 10 = true then 7 - px % 8 else px % 8) / 2)
    rw [hb]; simp only [Option.bind_some]
    refine bgIndexed_some _ _ _ (fun _ => ?_)
    have := nibble_lt b (if e.getLsbD 10 = true then 7 - px % 8 else px % 8)
    have := (BitVec.extractLsb' 12 4 e).isLt
    omega

theorem affineTexel_some (s c a b) : ∃ d, affineTexel s c a b = some d := by
  unfold affineTexel
  obtain ⟨t, ht⟩ := bgFetch8_some s (c.mapBase + b / 8 * (affineSide c.size / 8) + a / 8)
  rw [ht]; simp only [Option.bind_eq_bind, Option.bind_some]
  obtain ⟨u, hu⟩ := bgFetch8_some s (c.tileBase + 64 * t.toNat + 8 * (b % 8) + a % 8)
  rw [hu]; simp only [Option.bind_some]
  exact bgIndexed_some _ _ _ (fun _ => u.isLt)

theorem affineSlot_some (s i x) : ∃ d, affineSlot s i x = some d := by
  unfold affineSlot; simp only
  split
  · exact affineTexel_some _ _ _ _
  · split
    · simp
    · exact affineTexel_some _ _ _ _

theorem bgSlot_some (s y n x) (hy : y < 160) (hx : x < 240) : ∃ d, bgSlot s y n x = some d := by
  have hb : bitmapBase s ≤ 0xA000 := by unfold bitmapBase; split <;> omega
  unfold bgSlot; split
  · unfold activeSlot
    split <;> first | exact textPixel_some _ _ _ _ | exact affineSlot_some _ _ _ | simp | skip
    · unfold bitmap3Slot; rw [memRead16_of_lt _ _ _ (by simp [Config.spaceSize]; omega)]; simp
    · unfold bitmap4Slot; rw [memRead8_of_lt _ _ _ (by simp [Config.spaceSize]; omega)]
      simp only [Option.bind_eq_bind, Option.bind_some]
      exact bgIndexed_some _ _ _ (fun _ => BitVec.isLt _)
    · unfold bitmap5Slot; split
      · rw [memRead16_of_lt _ _ _ (by simp [Config.spaceSize]; omega)]; simp
      · simp
  · simp

theorem objAttr_some (s : State) (n : Nat) (h : n < 128) : ∃ o, objAttr s n = some o := by
  unfold objAttr
  rw [memRead16_of_lt _ _ _ (by simp [Config.spaceSize]; omega), memRead16_of_lt _ _ _ (by simp [Config.spaceSize]; omega), memRead16_of_lt _ _ _ (by simp [Config.spaceSize]; omega)]
  simp

theorem objParam_some (s g) (k) (h : k ≤ 30) : ∃ c, objParam s g k = some c := by
  unfold objParam; have := g.isLt
  rw [memRead16_of_lt _ _ _ (by simp [Config.spaceSize]; omega)]; simp

theorem objFetch_some (s off) : ∃ c, objFetch s off = some c := by
  unfold objFetch; rw [memRead8_of_lt _ _ _ (by simp [Config.spaceSize]; omega)]; simp

theorem objPixel_some (s o tx ty) : ∃ c, objPixel s o tx ty = some c := by
  unfold objPixel; simp only
  split
  · simp
  · split
    · obtain ⟨b, hb⟩ := objFetch_some s (32 * objTile s o tx ty + 8 * (ty % 8) + tx % 8)
      rw [hb]; simp only [Option.bind_eq_bind, Option.bind_some]
      split
      · simp
      · obtain ⟨c, hc⟩ := objColor_some s b.toNat b.isLt; simp [hc]
    · obtain ⟨b, hb⟩ := objFetch_some s (32 * objTile s o tx ty + 4 * (ty % 8) + tx % 8 / 2)
      rw [hb]; simp only [Option.bind_eq_bind, Option.bind_some]
      split
      · simp
      · have := nibble_lt b (tx % 8)
        have := o.palette.isLt
        obtain ⟨c, hc⟩ := objColor_some s (16 * o.palette.toNat + nibble b (tx % 8)) (by omega); simp [hc]

theorem objColorAt_some (s o y x) : ∃ c, objColorAt s o y x = some c := by
  unfold objColorAt
  have ⟨t, ht⟩ : ∃ t, objTexel s o (o.localX s.mosaic.obj x) (o.localY s.mosaic.obj y) = some t := by
    unfold objTexel; split
    · obtain ⟨a, ha⟩ := objParam_some s o.group 6 (by omega)
      obtain ⟨b, hb⟩ := objParam_some s o.group 14 (by omega)
      obtain ⟨c, hc⟩ := objParam_some s o.group 22 (by omega)
      obtain ⟨d, hd⟩ := objParam_some s o.group 30 (by omega)
      simp only [ha, hb, hc, hd, Option.bind_eq_bind, Option.bind_some]
      split <;> simp
    · simp
  rw [ht]; simp only [Option.bind_eq_bind, Option.bind_some]
  split
  · simp
  · exact objPixel_some _ _ _ _

theorem objStep_some (s y x d n) (h : n < 128) : ∃ e, objStep s y x d n = some e := by
  unfold objStep
  obtain ⟨o, ho⟩ := objAttr_some s n h
  rw [ho]; simp only [Option.bind_eq_bind, Option.bind_some]
  split
  · simp
  · obtain ⟨c, hc⟩ := objColorAt_some s o y x
    rw [hc]; simp only [Option.bind_some]
    split <;> simp

theorem objFold_some (s y x) (l : List Nat) (h : ∀ n ∈ l, n < 128) : ∀ d, ∃ e, l.foldlM (objStep s y x) d = some e := by
  induction l with
  | nil => intro d; simp
  | cons a t ih =>
    intro d
    obtain ⟨e, he⟩ := objStep_some s y x d a (h a (by simp))
    simp only [List.foldlM_cons, he, Option.bind_eq_bind, Option.bind_some]
    exact ih (fun n hn => h n (by simp [hn])) e

/-! ## What each fetch gives, as plain reads of the memories -/

theorem bgFetch8_eq (s off) : bgFetch8 s off = some (bgByte s off) := by
  unfold bgFetch8 bgByte; split
  · rw [memRead8_of_lt _ _ _ (by simp [Config.spaceSize]; omega)]; rfl
  · rfl

theorem bgFetch16_eq (s off) : bgFetch16 s off = some (bgHalf s off) := by
  unfold bgFetch16 bgHalf; split
  · rw [memRead16_of_lt _ _ _ (by simp [Config.spaceSize]; omega)]; rfl
  · rfl

theorem bgIndexed_eq (s idx i) (h : i < 256) : bgIndexed s idx i = some (indexed s idx (2*i)) := by
  unfold bgIndexed indexed; split
  · rfl
  · simp [bgColor, memRead16_of_lt s .pram (2*i) (by simp [Config.spaceSize]; omega), paletteColor, State.mem]

theorem nibble_eq (b k) : nibble b k = pixelNibble b k := by
  unfold nibble pixelNibble; split
  · simp only [BitVec.extractLsb'_toNat]; have := b.isLt; simp [Nat.shiftRight_eq_div_pow]; omega
  · simp

theorem pixelNibble_lt (b k) : pixelNibble b k < 16 := by rw [← nibble_eq]; exact nibble_lt _ _
/-- The screen block as a table of the layer size (R305). -/
theorem screenBlock_eq (sz px py) : screenBlock sz px py = [0, px / 256, py / 256, px / 256 + 2 * (py / 256)].getD sz.toNat 0 := by
  revert sz; intro sz
  have : sz = 0 ∨ sz = 1 ∨ sz = 2 ∨ sz = 3 := by revert sz; decide
  rcases this with rfl | rfl | rfl | rfl <;> rfl

theorem bankIndex_lt (e : BitVec 4) (b k) : 16 * e.toNat + nibble b k < 256 := by
  have := nibble_lt b k; omega

theorem objFetch_eq (s off) : objFetch s off = some (s.vram.read (0x10000 + off % 0x8000)) := by
  unfold objFetch; rw [memRead8_of_lt _ _ _ (by simp [Config.spaceSize]; omega)]; rfl

theorem objColor_eq (s i) (h : i < 256) : objColor s i = some (paletteColor s (0x200 + 2 * i)) := by
  simp [objColor, memRead16_of_lt s .pram (0x200 + 2*i) (by simp [Config.spaceSize]; omega), paletteColor, State.mem]

theorem objParam_eq (s) (g : BitVec 5) (k) (h : k ≤ 30) : objParam s g k = some ((s.oam.read (32 * g.toNat + k + 1) ++ s.oam.read (32 * g.toNat + k)).toInt) := by
  unfold objParam; have := g.isLt
  rw [memRead16_of_lt _ _ _ (by simp [Config.spaceSize]; omega)]; rfl

/-! ## The object row and the sorted candidates -/

/-- The fold over the first objects visits one slot after the other, in ascending order (R342). -/
theorem objFold_row (s y x) (N : Nat) (hN : N ≤ 128) (d0) : ∃ row : Nat → ObjSlot, row 0 = d0 ∧ (∀ n, n < N → objStep s y x (row n) n = some (row (n + 1))) ∧
    (List.range N).foldlM (objStep s y x) d0 = some (row N) := by
  induction N with
  | zero => exact ⟨fun _ => d0, rfl, by simp, rfl⟩
  | succ N ih =>
    obtain ⟨row, h0, h1, h2⟩ := ih (by omega)
    obtain ⟨e, he⟩ := objStep_some s y x (row N) N (by omega)
    refine ⟨fun n => if n = N + 1 then e else row n, by simp [h0], ?_, ?_⟩
    · intro n hn
      by_cases h : n = N
      · subst h; simp [he]
      · show objStep s y x (if n = N + 1 then e else row n) n = some (if n + 1 = N + 1 then e else row (n + 1))
        rw [if_neg (by omega), if_neg (by omega)]; exact h1 n (by omega)
    · rw [List.range_succ, List.foldlM_append, h2]; simp [he]

/-- In front: the lower priority, then the lower order (R382). -/
abbrev InFront (a b : Layer) : Prop := a.priority < b.priority ∨ (a.priority = b.priority ∧ a.order < b.order)

theorem insertLayer_sorted (l : Layer) (ls : List Layer) (h1 : ∀ m ∈ ls, m.order ≠ l.order) (h2 : ls.Pairwise InFront) :
    (insertLayer l ls).Pairwise InFront ∧ ∀ m, m ∈ insertLayer l ls ↔ m = l ∨ m ∈ ls := by
  revert h1 h2
  induction ls with
  | nil => intro _ _; simp [insertLayer]
  | cons m r ih =>
    intro h1 h2
    have h3 := List.pairwise_cons.1 h2
    obtain ⟨i1, i2⟩ := ih (fun k hk => h1 k (by simp [hk])) h3.2
    have hm := h1 m (by simp)
    unfold insertLayer; split
    · rename_i hb
      simp [Layer.before] at hb
      refine ⟨List.pairwise_cons.2 ⟨?_, h2⟩, by simp⟩
      intro k hk
      rcases List.mem_cons.1 hk with rfl | hk
      · exact hb
      · have := h3.1 k hk; omega
    · rename_i hb
      simp [Layer.before] at hb
      refine ⟨List.pairwise_cons.2 ⟨?_, i1⟩, ?_⟩
      · intro k hk
        rcases (i2 k).1 hk with rfl | hk
        · omega
        · exact h3.1 k hk
      · intro k; simp [i2]; tauto

/-- Sorting keeps the candidates and puts them in front-to-back order, where their orders differ (R382). -/
theorem sortLayers_sorted (ls : List Layer) (h : (ls.map (·.order)).Nodup) :
    (sortLayers ls).Pairwise InFront ∧ ∀ m, m ∈ sortLayers ls ↔ m ∈ ls := by
  induction ls with
  | nil => simp [sortLayers]
  | cons l r ih =>
    simp only [List.map_cons, List.nodup_cons] at h
    obtain ⟨j1, j2⟩ := ih h.2
    have := insertLayer_sorted l (sortLayers r) (fun m hm he => h.1 (by rw [j2] at hm; exact List.mem_map.2 ⟨m, hm, he⟩)) j1
    exact ⟨this.1, fun m => by simp [sortLayers, this.2, j2]⟩

end Sys2Proof.Machine
end

