-- ==== Sys2Proof/Laws/Sequencer.lean ====
section
/-! SUPPORT. Laws/Sequencer.lean: what one phase event does to the sequencer, and where the loop of due events ends. -/

namespace Sys2Proof.Machine

theorem phaseDur_le (q : Phase) : phaseDur q ≤ 1006 := by cases q <;> decide


/-- The `fire_cycle` that a handler computes from `late` is the event's own (R174). -/
theorem firedAt_late (e : Event) (s : State) : firedAt (e.late s.sched.now) s = e.fireCycle := by
  unfold firedAt Event.late
  have : BitVec.ofInt 64 ((s.sched.now.toNat : Int) - e.fireCycle.toNat) = s.sched.now - e.fireCycle := by
    rw [Int.sub_eq_add_neg, BitVec.ofInt_add, BitVec.ofInt_neg, BitVec.ofInt_natCast, BitVec.ofInt_natCast, BitVec.ofNat_toNat, BitVec.ofNat_toNat]
    simp [BitVec.sub_eq_add_neg]
  rw [this]
  apply BitVec.eq_of_toNat_eq; simp


/-- The phase and line after the phase that ends (R190, R206). -/
def successor : Phase → BitVec 8 → Option (Phase × BitVec 8)
  | .scanline, v => some (.hblankSearch, v)
  | .hblankSearch, v => some (.hblank, v)
  | .hblank, v => some (if v + 1 = 160 then .vblankScanline else .scanline, v + 1)
  | .vblankScanline, v => some (.vblankHblank, v)
  | .vblankHblank, v => some (if v = 227 then (.scanline, 0) else (.vblankScanline, v + 1))
  | .code5, _ => none
  | .code6, _ => none
  | .code7, _ => none

/-- The one event a handler adds: the end of the phase it enters (R191, R179). -/
def Armed (late : Int) (s t : State) (q : Phase) : Prop :=
  t.sched = ⟨s.sched.now, insertEvent ⟨firedAt late s + BitVec.ofNat 64 (phaseDur q), s.sched.nextSeq, q⟩ s.sched.queue, s.sched.nextSeq + 1⟩

/-- `RenderScanline` writes the frame and counts draws, and may record `F_INDEX` (R399). -/
theorem renderScanline_cases (s : State) : ∃ fr n f,
    renderScanline s = { s with frame := fr, draws := n, fault := f } ∧ (f = s.fault ∨ f = some .index) := by
  have hr : ∃ f, raiseFault .index s = { s with fault := f } ∧ (f = s.fault ∨ f = some .index) := by
    unfold raiseFault; split
    · exact ⟨_, rfl, .inr rfl⟩
    · exact ⟨s.fault, rfl, .inl rfl⟩
  obtain ⟨f, hr, hf⟩ := hr
  unfold renderScanline; simp only
  split
  · exact ⟨s.frame, s.draws, f, hr, hf⟩
  · split
    · exact ⟨_, s.draws, s.fault, rfl, .inl rfl⟩
    · split
      · exact ⟨_, _, s.fault, rfl, .inl rfl⟩
      · split
        · exact ⟨s.frame, s.draws, f, hr, hf⟩
        · exact ⟨_, s.draws, s.fault, rfl, .inl rfl⟩

/-- What a phase event does to the sequencer, from any state with no fault recorded (R173, R190, R191, R443). -/
theorem dispatchEvent_cases (p : Phase) (late : Int) (s : State) (hf : s.fault = none) :
    let t := dispatchEvent p late s
    (∃ q v, successor p s.ppu.vcount = some (q, v) ∧ late ≤ phaseDur q ∧ t.ppu = ⟨q, v⟩ ∧ Armed late s t q ∧
      (t.fault = none ∨ (t.fault = some .index ∧ p = .scanline))) ∨
    (∃ q v, successor p s.ppu.vcount = some (q, v) ∧ phaseDur q < late ∧ t.fault = some .negativeDelay ∧
       (t.ppu.vcount = s.ppu.vcount ∨ t.ppu.vcount = v)) ∨
    (successor p s.ppu.vcount = none ∧ t = { s with fault := some .phase }) := by
  intro t
  cases p
  · by_cases h : late ≤ 46
    · left
      have ht : t = _ := onScanlineEnd_inTime late s h hf
      refine ⟨_, _, rfl, h, ?_⟩
      rw [nextPhase_inTime _ _ _ h] at ht
      obtain ⟨fr, n, f, hr, hfl⟩ := renderScanline_cases (raiseHblank (firedAt late s)
        { s with
          ppu := { s.ppu with phase := .hblankSearch }
          sched := ⟨s.sched.now,
            insertEvent ⟨firedAt late s + BitVec.ofNat 64 (phaseDur .hblankSearch), s.sched.nextSeq, .hblankSearch⟩ s.sched.queue,
            s.sched.nextSeq + 1⟩ })
      rw [hr] at ht
      rw [ht]
      rcases hfl with rfl | rfl <;> simp [Armed, raiseHblank, hf]
    · right; left
      refine ⟨_, _, rfl, by simpa [phaseDur] using h, ?_⟩
      have ht : t = _ := onScanlineEnd_tooLate late s (by omega) hf
      rw [ht]; simp
  · by_cases h : late ≤ 226
    · left
      have ht : t = _ := onHblankSearchEnd_inTime late s h hf
      refine ⟨_, _, rfl, h, ?_⟩
      rw [nextPhase_inTime _ _ _ h] at ht
      rw [ht]; unfold requestVideoFromLine2
      split <;> simp [Armed, hf]
    · right; left
      refine ⟨_, _, rfl, by simpa [phaseDur] using h, ?_⟩
      have ht : t = _ := onHblankSearchEnd_tooLate late s (by omega) hf
      rw [ht]; simp
  · have ht : t = _ := onHblankEnd_eq late s hf
    have hu : ∀ s, (updateAffine s).ppu = s.ppu ∧ (updateAffine s).sched = s.sched ∧ (updateAffine s).fault = s.fault := by
      intro s; unfold updateAffine; split <;> simp [reloadAffine]
    generalize hs1 : evalVCount (some (firedAt late s)) (setVcount (s.ppu.vcount + 1) (setHblankFlag false s)) = s1 at ht
    have hp1 : s1.ppu = ⟨s.ppu.phase, s.ppu.vcount + 1⟩ := by rw [← hs1]; simp
    have hf1 : s1.fault = none := by rw [← hs1]; simpa using hf
    have hc1 : s1.sched = s.sched := by rw [← hs1]; simp
    have hfa : firedAt late s1 = firedAt late s := by simp [firedAt, hc1]
    rw [runOps_cons _ _ _ hf1] at ht
    unfold hblankBranch at ht
    have hv1 : s1.ppu.vcount = s.ppu.vcount + 1 := by rw [hp1]
    rw [hv1] at ht
    by_cases hv : s.ppu.vcount + 1 = 160
    · rw [if_pos hv] at ht
      by_cases h : late ≤ 1006
      · left
        refine ⟨.vblankScanline, s.ppu.vcount + 1, by simp only [successor, if_pos hv], h, ?_⟩
        rw [enterVblank_inTime _ _ _ h hf1, nextPhase_inTime _ _ _ h] at ht
        rw [runOps_cons _ _ _ (by simpa [raiseVblank] using hf1), runOps_nil] at ht
        rw [ht]
        simp only [hu, Armed]
        simp [raiseVblank, hv1, hc1, hf1, firedAt]
      · right; left
        refine ⟨.vblankScanline, s.ppu.vcount + 1, by simp only [successor, if_pos hv], by simpa [phaseDur] using h, ?_⟩
        rw [enterVblank_tooLate _ _ _ (by omega) hf1, runOps_of_fault _ _ (by simp)] at ht
        rw [ht]; simp [hv1]
    · rw [if_neg hv] at ht
      by_cases h : late ≤ 960
      · left
        refine ⟨.scanline, s.ppu.vcount + 1, by simp only [successor, if_neg hv], h, ?_⟩
        rw [enterVisibleLine_inTime _ _ h hf1, nextPhase_inTime _ _ _ h] at ht
        rw [runOps_cons _ _ _ (by simpa using hf1), runOps_nil] at ht
        rw [ht]
        simp only [hu, Armed]
        simp [hv1, hc1, hf1, firedAt]
      · right; left
        refine ⟨.scanline, s.ppu.vcount + 1, by simp only [successor, if_neg hv], by simpa [phaseDur] using h, ?_⟩
        rw [enterVisibleLine_tooLate _ _ (by omega) hf1, runOps_of_fault _ _ (by simp)] at ht
        rw [ht]; simp [hv1]
  · by_cases h : late ≤ 226
    · left
      have ht : t = _ := onVblankScanlineEnd_inTime late s h hf
      refine ⟨_, _, rfl, h, ?_⟩
      rw [nextPhase_inTime _ _ _ h] at ht
      rw [ht]; unfold blankingRequests raiseHblank
      split <;> (try split) <;> simp [Armed, hf]
    · right; left
      refine ⟨_, _, rfl, by simpa [phaseDur] using h, ?_⟩
      have ht : t = _ := onVblankScanlineEnd_tooLate late s (by omega) hf
      rw [ht]; simp
  · have ht : t = _ := onVblankHblankEnd_eq late s hf
    rw [runOps_cons _ _ _ (by simpa using hf)] at ht
    unfold vblankBranch at ht
    have hv0 : (setHblankFlag false s).ppu = s.ppu := by simp
    rw [hv0] at ht
    have h0 : (setHblankFlag false s).fault = none := by simpa using hf
    by_cases hv : s.ppu.vcount = 227
    · rw [if_pos hv] at ht
      by_cases h : late ≤ 960
      · left
        refine ⟨.scanline, 0, by simp only [successor, if_pos hv], h, ?_⟩
        have hr : ∃ u, u = runOps [setVcount 0, nextPhase .scanline late] (setHblankFlag false s) := ⟨_, rfl⟩
        obtain ⟨u, hr⟩ := hr
        rw [← hr] at ht
        rw [runOps_cons _ _ _ h0, runOps_cons _ _ _ (by simpa using hf), runOps_nil, nextPhase_inTime _ _ _ h] at hr
        subst hr
        rw [runOps_cons _ _ _ (by simpa using hf), runOps_nil] at ht
        rw [ht]; simp [Armed, hf, firedAt]
      · right; left
        refine ⟨.scanline, 0, by simp only [successor, if_pos hv], by simpa [phaseDur] using h, ?_⟩
        have hr : ∃ u, u = runOps [setVcount 0, nextPhase .scanline late] (setHblankFlag false s) := ⟨_, rfl⟩
        obtain ⟨u, hr⟩ := hr
        rw [← hr] at ht
        rw [runOps_cons _ _ _ h0, runOps_cons _ _ _ (by simpa using hf), runOps_nil, nextPhase_tooLate _ _ _ (by simpa [phaseDur] using h) (by simpa using hf)] at hr
        subst hr
        rw [runOps_of_fault _ _ (by simp)] at ht
        rw [ht]; simp
    · rw [if_neg hv] at ht
      by_cases h : late ≤ 1006
      · left
        refine ⟨.vblankScanline, s.ppu.vcount + 1, by simp only [successor, if_neg hv], h, ?_⟩
        have hfn : (nextPhase .vblankScanline late (setHblankFlag false s)).fault = none := by rw [nextPhase_inTime _ _ _ h]; simpa using hf
        have hr : ∃ u, u = runOps [nextPhase .vblankScanline late, clearVblankAtLine226, setVcount (s.ppu.vcount + 1)] (setHblankFlag false s) := ⟨_, rfl⟩
        obtain ⟨u, hr⟩ := hr
        rw [← hr] at ht
        rw [runOps_cons _ _ _ h0, runOps_cons _ _ _ hfn, runOps_cons _ _ _ (by unfold clearVblankAtLine226; split <;> simpa using hfn), runOps_nil, nextPhase_inTime _ _ _ h] at hr
        subst hr
        rw [runOps_cons _ _ _ (by unfold clearVblankAtLine226; split <;> simpa using hf), runOps_nil] at ht
        rw [ht]; unfold clearVblankAtLine226
        split <;> simp [Armed, hf, firedAt]
      · right; left
        refine ⟨.vblankScanline, s.ppu.vcount + 1, by simp only [successor, if_neg hv], by simpa [phaseDur] using h, ?_⟩
        have hr : ∃ u, u = runOps [nextPhase .vblankScanline late, clearVblankAtLine226, setVcount (s.ppu.vcount + 1)] (setHblankFlag false s) := ⟨_, rfl⟩
        obtain ⟨u, hr⟩ := hr
        rw [← hr] at ht
        rw [runOps_cons _ _ _ h0, nextPhase_tooLate _ _ _ (by simpa [phaseDur] using h) h0, runOps_of_fault _ _ (by simp)] at hr
        subst hr
        rw [runOps_of_fault _ _ (by simp)] at ht
        rw [ht]; simp
  all_goals
    right; right
    exact ⟨rfl, raiseFault_of_none _ _ hf⟩

/-! ## The loop of due events -/

/-- How many more events the loop fires for one entry, at most: one where it is too late for every phase, two where it is due
now, three where it is late, none where it is not due. -/
def eventWeight (now : Word64) (e : Event) : Nat :=
  if now.toNat < e.fireCycle.toNat then 0 else if e.fireCycle.toNat + 1006 < now.toNat then 1 else if e.fireCycle.toNat = now.toNat then 2 else 3

/-- The same for the queue. -/
def dueWeight (now : Word64) (q : List Event) : Nat := (q.map (eventWeight now)).sum

theorem dueWeight_insert (now e q) : dueWeight now (insertEvent e q) = eventWeight now e + dueWeight now q := by
  induction q with
  | nil => rfl
  | cons x r ih =>
    unfold insertEvent; split
    · unfold dueWeight at *; simp [ih]; omega
    · simp [dueWeight]

/-- The fuel lasts for the weight of the queue. -/
theorem advanceLoop_settles (n : Nat) : ∀ s : State, dueWeight s.sched.now s.sched.queue ≤ n →
    (advanceLoop n s).fault ≠ none ∨ NothingDue (advanceLoop n s) := by
  induction n with
  | zero =>
    intro s h
    right; intro e rest hq
    have hq : s.sched.queue = e :: rest := hq
    rw [hq] at h; simp [dueWeight, eventWeight] at h
    show s.sched.now.toNat < _
    by_contra hc
    have := h.1 (by omega)
    split at this <;> (try split at this) <;> omega
  | succ n ih =>
    intro s h
    unfold advanceLoop
    split
    · left; exact (faulted_eq _).1 ‹_›
    · rename_i hf
      have hf : s.fault = none := by by_contra hc; exact hf (faulted_of_some _ hc)
      split
      · rename_i hq; right; intro e rest h'; rw [hq] at h'; cases h'
      · rename_i e rest hq
        split
        · rename_i hd
          have hd : e.fireCycle.toNat ≤ s.sched.now.toNat := by simpa [Event.due] using hd
          have hc := dispatchEvent_cases e.tag (e.late s.sched.now) (popEvent s) hf
          have hstop : ∀ t : State, t.fault ≠ none → (advanceLoop n t).fault ≠ none := by
            intro t ht; cases n with
            | zero => exact ht
            | succ n => unfold advanceLoop; rw [faulted_of_some _ ht]; exact ht
          rcases hc with ⟨q, w, hs, hl, hp, ha, hfl⟩ | ⟨q, w, hs, hl, hfl, _⟩ | ⟨_, hfl⟩
          · generalize dispatchEvent e.tag (e.late s.sched.now) (popEvent s) = t at *
            rcases hfl with hfl | ⟨hfl, _⟩
            · apply ih
              unfold Armed at ha
              have hfi' : firedAt (e.late s.sched.now) (popEvent s) = e.fireCycle := firedAt_late e s
              rw [ha, hfi', dueWeight_insert]
              have : dueWeight s.sched.now s.sched.queue = eventWeight s.sched.now e + dueWeight s.sched.now rest := by rw [hq]; simp [dueWeight]
              simp only [popEvent, hq, List.tail_cons]
              have hdl := phaseDur_le q
              have hlt : eventWeight s.sched.now ⟨e.fireCycle + BitVec.ofNat 64 (phaseDur q), s.sched.nextSeq, q⟩ < eventWeight s.sched.now e := by
                have hl2 := s.sched.now.isLt
                have hl3 := e.fireCycle.isLt
                have hfn : (e.fireCycle + BitVec.ofNat 64 (phaseDur q)).toNat = (e.fireCycle.toNat + phaseDur q) % 2 ^ 64 := by
                  rw [BitVec.toNat_add, BitVec.toNat_ofNat]; omega
                have h46 : 46 ≤ phaseDur q := by
                  have hq5 : q = .scanline ∨ q = .hblankSearch ∨ q = .hblank ∨ q = .vblankScanline ∨ q = .vblankHblank := by
                    cases hh : e.tag <;> rw [hh] at hs <;> simp [successor] at hs
                    · obtain ⟨rfl, _⟩ := hs; simp
                    · obtain ⟨rfl, _⟩ := hs; simp
                    · obtain ⟨h, _⟩ := hs; rw [← h]; by_cases hv : s.ppu.vcount + 1#8 = 160#8 <;> simp [hv]
                    · obtain ⟨rfl, _⟩ := hs; simp
                    · by_cases hv : s.ppu.vcount = 227#8
                      · simp [hv] at hs; obtain ⟨rfl, _⟩ := hs; simp
                      · simp [hv] at hs; obtain ⟨rfl, _⟩ := hs; simp
                  rcases hq5 with rfl | rfl | rfl | rfl | rfl <;> decide
                unfold Event.late at hl
                unfold eventWeight; simp only [hfn]
                by_cases hov : e.fireCycle.toNat + phaseDur q < 2 ^ 64
                · rw [Nat.mod_eq_of_lt hov]; split_ifs <;> omega
                · split_ifs <;> omega
              omega
            · left; exact hstop _ (by rw [hfl]; simp)
          · left; exact hstop _ (by rw [hfl]; simp)
          · left; exact hstop _ (by rw [hfl]; simp)
        · rename_i hd
          right; intro e' rest' h'
          rw [hq] at h'; cases h'
          simpa [Event.due] using hd

/-- `Advance` leaves no event due, unless a fault is recorded (R174). -/
theorem advance_settles (s : State) : (advance s).fault ≠ none ∨ NothingDue (advance s) := by
  apply advanceLoop_settles
  generalize s.sched.queue = q
  induction q with
  | nil => simp [dueWeight]
  | cons x r ih =>
    have : eventWeight s.sched.now x ≤ 3 := by unfold eventWeight; split_ifs <;> omega
    simp only [dueWeight, List.map_cons, List.sum_cons, List.length_cons] at *
    omega

/-- The loop of `Advance` fires the due events one after the other, if it comes to its end (R174). -/
theorem advanceLoop_firesDue (n : Nat) : ∀ s : State, ((advanceLoop n s).fault ≠ none ∨ NothingDue (advanceLoop n s)) →
    FiresDue s (advanceLoop n s) := by
  induction n with
  | zero => intro s h; exact .ended s h
  | succ n ih =>
    intro s h
    by_cases hf : s.faulted = true
    · have : advanceLoop (n + 1) s = s := by unfold advanceLoop; rw [if_pos hf]
      rw [this] at h ⊢; exact .ended s h
    have hn : s.fault = none := by by_contra hc; exact hf (faulted_of_some _ hc)
    cases hq : s.sched.queue with
    | nil =>
      have : advanceLoop (n + 1) s = s := by unfold advanceLoop; rw [if_neg hf]; simp only [hq]
      rw [this] at h ⊢; exact .ended s h
    | cons e rest =>
      by_cases hd : e.due s.sched.now = true
      · have hp : popEvent s = { s with sched := { s.sched with queue := rest } } := by simp [popEvent, hq]
        have : advanceLoop (n + 1) s = advanceLoop n (dispatchEvent e.tag (e.late s.sched.now) (popEvent s)) := by
          conv_lhs => unfold advanceLoop
          rw [if_neg hf]; simp only [hq, hd, if_true]
        rw [this] at h ⊢
        refine .fires s _ e rest hn hq (by simpa [Event.due] using hd) ?_
        rw [← hp]; exact ih _ h
      · have : advanceLoop (n + 1) s = s := by
          unfold advanceLoop; rw [if_neg hf]; simp only [hq, hd, if_false, Bool.false_eq_true]
        rw [this] at h ⊢; exact .ended s h

/-- Where nothing is due `Advance` does nothing (R174). -/
theorem advance_nothingDue (s : State) (h : NothingDue s) : advance s = s := by
  unfold advance
  cases hq : s.sched.queue with
  | nil => rfl
  | cons e rest =>
    show advanceLoop (3 * rest.length + 2 + 1) s = s
    unfold advanceLoop
    split
    · rfl
    · simp only [hq]
      rw [if_neg (by have := h e rest hq; simpa [Event.due] using this)]

/-- Where `Advance` ends is where the due events lead (R174). -/
theorem advance_firesDue (s : State) : FiresDue s (advance s) := advanceLoop_firesDue _ s (advance_settles s)

end Sys2Proof.Machine
end

