-- ==== Sys2Proof/Laws/Timers.lean ====
section
/-! SUPPORT. Laws/Timers.lean: what a timer step may write, and what it keeps. -/

namespace Sys2Proof.Machine

/-- What a timer step may write: the timers and, growing, the trace (R423). -/
def TimerWrites (s t : State) : Prop := (∃ new, t.out = s.out ++ new) ∧ t = { s with tm := t.tm, out := t.out }

theorem TimerWrites.refl (s) : TimerWrites s s := ⟨⟨[], by simp⟩, rfl⟩

theorem TimerWrites.trans {s t u} (h : TimerWrites s t) (k : TimerWrites t u) : TimerWrites s u := by
  obtain ⟨⟨n, a⟩, b⟩ := h; obtain ⟨⟨m, c⟩, d⟩ := k
  refine ⟨⟨n ++ m, by rw [c, a]; simp⟩, ?_⟩
  conv_lhs => rw [d]
  rw [b]

theorem TimerWrites.set (k t s) : TimerWrites s (setTimer k t s) := ⟨⟨[], by simp [setTimer]⟩, rfl⟩

theorem TimerWrites.outs (k n s) : TimerWrites s (timerOutputs k n s) := by
  unfold timerOutputs raiseIf
  split
  · exact TimerWrites.trans (t := emit (.raise (.timer k)) none s) ⟨⟨_, rfl⟩, rfl⟩ ⟨⟨_, rfl⟩, rfl⟩
  · exact ⟨⟨_, rfl⟩, rfl⟩

theorem TimerWrites.free (k n s) : TimerWrites s (stepFree k n s) := by
  unfold stepFree; simp only; split
  · exact .set _ _ _
  · exact (TimerWrites.set _ _ _).trans (.outs _ _ _)

theorem TimerWrites.casc (b k s) : TimerWrites s (stepCascade b k s) := by
  unfold stepCascade setOverflow; split
  · simp only; split
    · exact ((TimerWrites.set _ _ _).trans (.set _ _ _)).trans (.outs _ _ _)
    · exact (TimerWrites.set _ _ _).trans (.set _ _ _)
  · exact .refl s

theorem TimerWrites.step (k n s) : TimerWrites s (stepTimer k n s) := by
  unfold stepTimer; split
  · split
    · cases k
      · exact .refl s
      all_goals exact .casc _ _ _
    · exact .free _ _ _
  · exact .refl s

theorem TimerWrites.run (n s) : TimerWrites s (timerRun n s) := by
  unfold timerRun clearOverflows setOverflow
  exact ((((TimerWrites.step _ _ _).trans (.step _ _ _)).trans (.step _ _ _)).trans (.step _ _ _)).trans ((((TimerWrites.set _ _ _).trans (.set _ _ _)).trans (.set _ _ _)).trans (.set _ _ _))

/-- A sub-tick count of 0 to 0x3FF (R54). -/
def cyclesInRange (t : Timer) : Prop := 0 ≤ t.cycles.toInt ∧ t.cycles.toInt ≤ 0x3FF

/-- All four. -/
def CyclesInRange (s : State) : Prop := ∀ k, cyclesInRange (s.tm.get k)

theorem four_get_set {α} (f : Four α) (k j : Ix4) (v : α) : (f.set k v).get j = if j = k then v else f.get j := by
  cases k <;> cases j <;> rfl

theorem CyclesInRange.set (k t s) (h : CyclesInRange s) (ht : cyclesInRange t) : CyclesInRange (setTimer k t s) := by
  intro j; simp only [setTimer, four_get_set]; split
  · exact ht
  · exact h j

theorem cyclesInRange_mask (x : Int) (f) : cyclesInRange { Timer.reset with cycles := BitVec.ofInt 32 (x % (prescaleMask f + 1)) } := by
  have h1 : (prescaleMask f : Int) + 1 ≤ 0x400 ∧ 0 < (prescaleMask f : Int) + 1 := by
    unfold prescaleMask; split <;> simp
  have h2 := Int.emod_nonneg x (ne_of_gt h1.2)
  have h3 := Int.emod_lt_of_pos x h1.2
  have : (BitVec.ofInt 32 (x % (prescaleMask f + 1))).toInt = x % (prescaleMask f + 1) := by
    rw [BitVec.toInt_ofInt]; apply Int.bmod_eq_of_le <;> omega
  unfold cyclesInRange; simp only [this]; omega

theorem timerOutputs_tm (k n s) : (timerOutputs k n s).tm = s.tm := by
  unfold timerOutputs raiseIf; split <;> rfl

theorem CyclesInRange.free (k n s) (h : CyclesInRange s) : CyclesInRange (stepFree k n s) := by
  have : cyclesInRange ((s.tm.get k).free n).1 := by
    unfold Timer.free; simp only
    split <;> exact cyclesInRange_mask _ (s.tm.get k).frequency
  unfold stepFree; simp only; split
  · exact h.set _ _ _ this
  · unfold CyclesInRange; rw [timerOutputs_tm]; exact h.set _ _ _ this

theorem CyclesInRange.ov (k b s) (h : CyclesInRange s) : CyclesInRange (setOverflow k b s) := h.set _ _ _ (h k)

theorem CyclesInRange.casc (b k s) (h : CyclesInRange s) : CyclesInRange (stepCascade b k s) := by
  unfold stepCascade; split
  · have h1 := CyclesInRange.ov b false s h
    simp only; split
    · unfold CyclesInRange; rw [timerOutputs_tm]; exact h1.set _ _ _ (h1 k)
    · exact h1.set _ _ _ (h1 k)
  · exact h

theorem CyclesInRange.step (k n s) (h : CyclesInRange s) : CyclesInRange (stepTimer k n s) := by
  unfold stepTimer; split
  · split
    · cases k
      · exact h
      all_goals exact h.casc _ _ _
    · exact h.free _ _ _
  · exact h

theorem CyclesInRange.run (n s) (h : CyclesInRange s) : CyclesInRange (timerRun n s) := by
  unfold timerRun clearOverflows
  exact ((((((((h.step _ _ _).step _ _ _).step _ _ _).step _ _ _).ov _ _ _).ov _ _ _).ov _ _ _).ov _ _ _)

/-- No overflow flag is left after a step (R411, R416). -/
theorem timerRun_overflow (n s) : ∀ k, ((timerRun n s).tm.get k).overflow = false := by
  intro k; unfold timerRun clearOverflows setOverflow setTimer; cases k <;> rfl

theorem stepFree_tm (k n s s') (h : s.tm = s'.tm) : (stepFree k n s).tm = (stepFree k n s').tm := by
  unfold stepFree; simp only [h]; split
  · simp [setTimer, h]
  · simp [timerOutputs_tm, setTimer, h]

theorem stepCascade_tm (b k s s') (h : s.tm = s'.tm) : (stepCascade b k s).tm = (stepCascade b k s').tm := by
  cases s; cases s'; simp only at h; subst h
  unfold stepCascade setOverflow setTimer; split
  · dsimp only; split
    · simp [timerOutputs_tm]
    · rfl
  · rfl

theorem stepTimer_tm (k n s s') (h : s.tm = s'.tm) : (stepTimer k n s).tm = (stepTimer k n s').tm := by
  unfold stepTimer; simp only [h]; split
  · split
    · cases k
      · exact h
      all_goals exact stepCascade_tm _ _ _ _ h
    · exact stepFree_tm _ _ _ _ h
  · exact h

/-- The timers after a step depend on the timers alone (R423). -/
theorem timerRun_tm (n s s') (h : s.tm = s'.tm) : (timerRun n s).tm = (timerRun n s').tm := by
  unfold timerRun
  have h1 := stepTimer_tm .n0 n _ _ h
  have h2 := stepTimer_tm .n1 n _ _ h1
  have h3 := stepTimer_tm .n2 n _ _ h2
  have h4 := stepTimer_tm .n3 n _ _ h3
  simp [clearOverflows, setOverflow, setTimer, h4]

/-- The registers of a timer that no step writes (R74). -/
def sameControl (t u : Timer) : Prop := u.reload = t.reload ∧ u.frequency = t.frequency ∧ u.cascade = t.cascade ∧ u.interrupt = t.interrupt ∧ u.enable = t.enable

/-- All four. -/
def SameControls (s u : State) : Prop := ∀ k, sameControl (s.tm.get k) (u.tm.get k)

theorem sameControl.refl (t) : sameControl t t := ⟨rfl, rfl, rfl, rfl, rfl⟩

theorem SameControls.refl (s) : SameControls s s := fun _ => .refl _

theorem SameControls.trans {s t u} (h : SameControls s t) (k : SameControls t u) : SameControls s u := fun i => by
  obtain ⟨a,b,c,d,e⟩ := h i; obtain ⟨a',b',c',d',e'⟩ := k i
  exact ⟨a'.trans a, b'.trans b, c'.trans c, d'.trans d, e'.trans e⟩

theorem SameControls.set (k t s) (h : sameControl (s.tm.get k) t) : SameControls s (setTimer k t s) := by
  intro j; simp only [setTimer, four_get_set]; split
  · subst_vars; exact h
  · exact .refl _

theorem SameControls.outs (k n s) : SameControls s (timerOutputs k n s) := by intro j; rw [timerOutputs_tm]; exact .refl _

theorem SameControls.free (k n s) : SameControls s (stepFree k n s) := by
  have : sameControl (s.tm.get k) ((s.tm.get k).free n).1 := by
    unfold Timer.free; simp only; split <;> exact ⟨rfl, rfl, rfl, rfl, rfl⟩
  unfold stepFree; simp only; split
  · exact .set _ _ _ this
  · exact (SameControls.set _ _ _ this).trans (.outs _ _ _)

theorem SameControls.casc (b k s) : SameControls s (stepCascade b k s) := by
  unfold stepCascade setOverflow; split
  · simp only; split
    · exact ((SameControls.set _ _ _ (by exact ⟨rfl, rfl, rfl, rfl, rfl⟩)).trans (.set _ _ _ (by exact ⟨rfl, rfl, rfl, rfl, rfl⟩))).trans (.outs _ _ _)
    · exact (SameControls.set _ _ _ (by exact ⟨rfl, rfl, rfl, rfl, rfl⟩)).trans (.set _ _ _ (by exact ⟨rfl, rfl, rfl, rfl, rfl⟩))
  · exact .refl s

theorem SameControls.step (k n s) : SameControls s (stepTimer k n s) := by
  unfold stepTimer; split
  · split
    · cases k
      · exact .refl s
      all_goals exact .casc _ _ _
    · exact .free _ _ _
  · exact .refl s

theorem SameControls.ov (k b s) : SameControls s (setOverflow k b s) := .set _ _ _ ⟨rfl, rfl, rfl, rfl, rfl⟩

theorem SameControls.run (n s) : SameControls s (timerRun n s) := by
  unfold timerRun clearOverflows
  exact (((((((SameControls.step _ _ _).trans (.step _ _ _)).trans (.step _ _ _)).trans (.step _ _ _)).trans (.ov _ _ _)).trans (.ov _ _ _)).trans (.ov _ _ _)).trans (.ov _ _ _)

/-! ## One step, timer by timer -/

/-- The outputs of an overflow (R417, R452). -/
theorem timerOutputs_eq (k n) (s : State) : timerOutputs k n s = { s with out := s.out ++ ((if (s.tm.get k).interrupt then [⟨.raise (.timer k), s.sched.now, none⟩] else []) ++ [⟨.timerOverflow k n, s.sched.now, none⟩]) } := by
  unfold timerOutputs raiseIf; split <;> simp [emit]

/-- A free-running step sets the overflow flag exactly where it wrapped (R413). -/
theorem timerFree_overflow (t : Timer) (d) : (t.free d).1.overflow = (t.overflow || decide (1 ≤ (t.free d).2)) := by
  unfold Timer.free; dsimp only; split
  · simp
  · rename_i h
    have hp : 0 < (0x10000 : Int) - t.reload.toNat := by have := t.reload.isLt; omega
    have hc := t.counter.isLt
    have h0 : 0 ≤ (t.cycles.toInt + d) / 2 ^ prescaleShift t.frequency - (0x10000 - (t.counter.toNat:Int)) := by omega
    have := Int.ediv_nonneg h0 hp.le
    simp; omega

theorem timerFree_interrupt (t : Timer) (d) : (t.free d).1.interrupt = t.interrupt := by
  unfold Timer.free; dsimp only; split <;> rfl

/-- `StepFree` as one update (R413). -/
theorem stepFree_eq (k d) (s : State) : stepFree k d s = { s with tm := s.tm.set k ((s.tm.get k).free d).1, out := s.out ++ wrapRecords s k ((s.tm.get k).free d).2 } := by
  unfold stepFree wrapRecords; dsimp only; split
  · simp [setTimer]
  · simp [timerOutputs_eq, setTimer, timerFree_interrupt]

/-- `StepCascade` as one update (R415). -/
theorem stepCascade_eq (b k) (s : State) (hbk : b ≠ k) : 
    stepCascade b k s = if (s.tm.get b).overflow then
      (if (s.tm.get k).counter = 0xFFFF then { s with tm := (s.tm.set b { s.tm.get b with overflow := false }).set k { s.tm.get k with counter := (s.tm.get k).reload, overflow := true }, out := s.out ++ wrapRecords s k 1 }
      else { s with tm := (s.tm.set b { s.tm.get b with overflow := false }).set k { s.tm.get k with counter := (s.tm.get k).counter + 1 } }) else s := by
  unfold stepCascade setOverflow; split
  · simp only [setTimer, four_get_set, if_neg (Ne.symm hbk)]
    split
    · simp [timerOutputs_eq, wrapRecords]
    · rfl
  · rfl

/-- Timer `k`, above timer `b`, takes its turn (R411, R413, R415): its registers, its outputs, and of the others only the flag
below. -/
theorem stepTimer_turn (k : Ix4) (hk : k ≠ .n0) (b : Ix4) (hb : k.toNat = b.toNat + 1) (d) (s : State) :
    let r := Timer.turn (s.tm.get k) (s.tm.get b).overflow d
    let t := stepTimer k d s
    t = { s with tm := t.tm, out := s.out ++ wrapRecords s k r.2 } ∧
    (∀ j, j ≠ k → j ≠ b → t.tm.get j = s.tm.get j) ∧
    { t.tm.get b with overflow := false } = { s.tm.get b with overflow := false } ∧
    (t.tm.get k) = { r.1 with overflow := (s.tm.get k).overflow || decide (1 ≤ r.2) } := by
  have hne : b ≠ k := by rintro rfl; omega
  have hc : stepTimer k d s = if (s.tm.get k).enable then (if (s.tm.get k).cascade then stepCascade b k s else stepFree k d s) else s := by
    unfold stepTimer; cases k <;> cases b <;> simp [Ix4.toNat] at hb <;> simp at hk <;> rfl
  rw [hc]; unfold Timer.turn
  cases he : (s.tm.get k).enable
  · refine ⟨by simp [wrapRecords], by simp, by simp, by simp⟩
  cases hcas : (s.tm.get k).cascade
  · simp only [if_true, Bool.not_true, Bool.not_false, if_false, Bool.false_eq_true]
    rw [stepFree_eq]
    refine ⟨rfl, ?_, ?_, ?_⟩
    · intro j hj _; simp [four_get_set, hj]
    · simp [four_get_set, hne]
    · simp only [four_get_set, if_true]; rw [← timerFree_overflow]
  · simp only [if_true, Bool.not_true, if_false, Bool.false_eq_true]
    rw [stepCascade_eq _ _ _ hne]
    cases ho : (s.tm.get b).overflow
    · refine ⟨by simp [wrapRecords], by simp, by simp, by simp⟩
    · simp only [if_true, Bool.not_true, if_false, Bool.false_eq_true]
      split
      · refine ⟨rfl, ?_, ?_, ?_⟩
        · intro j hj hj'; simp [four_get_set, hj, hj']
        · simp [four_get_set, hne]
        · simp [he, hcas]
      · refine ⟨by simp [wrapRecords], ?_, ?_, ?_⟩
        · intro j hj hj'; simp [four_get_set, hj, hj']
        · simp [four_get_set, hne]
        · simp [he, hcas]

/-- Timer 0 takes its turn: no timer stands below it (R418). -/
theorem stepTimer_turn_zero (d) (s : State) :
    let r := Timer.turn (s.tm.get .n0) false d
    let t := stepTimer .n0 d s
    t = { s with tm := t.tm, out := s.out ++ wrapRecords s .n0 r.2 } ∧
    (∀ j, j ≠ .n0 → t.tm.get j = s.tm.get j) ∧
    (t.tm.get .n0) = { r.1 with overflow := (s.tm.get .n0).overflow || decide (1 ≤ r.2) } := by
  unfold stepTimer Timer.turn
  cases he : (s.tm.get .n0).enable
  · refine ⟨by simp [wrapRecords], by simp, by simp⟩
  cases hcas : (s.tm.get .n0).cascade
  · simp only [if_true, Bool.not_true, Bool.not_false, if_false, Bool.false_eq_true]
    rw [stepFree_eq]
    refine ⟨rfl, ?_, ?_⟩
    · intro j hj; simp [four_get_set, hj]
    · simp only [four_get_set, if_true]; rw [← timerFree_overflow]
  · refine ⟨by simp [wrapRecords, cascadePath], by simp [cascadePath], by simp [cascadePath]⟩

end Sys2Proof.Machine
end

