-- ==== Sys2Proof/Tests/Slice0.lean ====
section
/-! SUPPORT. Tests/Slice0.lean: the decoding of every row's word, the smoke tests of WellFormed, one-step tests with the results
of spec/95, and the witnesses of the obligations' hypotheses. -/

namespace Sys2Proof.Tests

open Sys2Proof Sys2Proof.Machine Sys2Proof.Machine.Claims

/-! ## Decoding: every bus row's word, from its base and address in the opcode table, with an operand written in -/

/-- Every word decodes to its instruction. -/
def decodes (table : List (Nat × Instr)) : Bool := table.all fun row => decodeTableWord 64 row.1 == some row.2

set_option maxRecDepth 10000 in
theorem test_decode_display : decodes
    [(0x40400000000000A5, .wr8Dispcnt0 0xA5), (0x2040000000000000, .rd8Dispcnt0),
     (0x40400000100000A5, .wr8Dispcnt1 0xA5), (0x2040000010000000, .rd8Dispcnt1),
     (0x504000000000C35A, .wr16Dispcnt 0xC35A), (0x3040000000000000, .rd16Dispcnt),
     (0x40400000400000A5, .wr8Dispstat0 0xA5), (0x2040000040000000, .rd8Dispstat0),
     (0x40400000500000A5, .wr8Dispstat1 0xA5), (0x2040000050000000, .rd8Dispstat1),
     (0x504000004000C35A, .wr16Dispstat 0xC35A), (0x3040000040000000, .rd16Dispstat),
     (0x40400000600000A5, .wr8Vcount0 0xA5), (0x2040000060000000, .rd8Vcount0),
     (0x40400000700000A5, .wr8Vcount1 0xA5), (0x2040000070000000, .rd8Vcount1),
     (0x504000006000C35A, .wr16Vcount 0xC35A), (0x3040000060000000, .rd16Vcount)] = true := by decide

set_option maxRecDepth 10000 in
theorem test_decode_bgcnt : decodes
    [(0x40400000800000A5, .wr8Bg0cnt0 0xA5), (0x2040000080000000, .rd8Bg0cnt0),
     (0x40400000900000A5, .wr8Bg0cnt1 0xA5), (0x2040000090000000, .rd8Bg0cnt1),
     (0x504000008000C35A, .wr16Bg0cnt 0xC35A), (0x3040000080000000, .rd16Bg0cnt),
     (0x40400000A00000A5, .wr8Bg1cnt0 0xA5), (0x20400000A0000000, .rd8Bg1cnt0),
     (0x40400000B00000A5, .wr8Bg1cnt1 0xA5), (0x20400000B0000000, .rd8Bg1cnt1),
     (0x50400000A000C35A, .wr16Bg1cnt 0xC35A), (0x30400000A0000000, .rd16Bg1cnt),
     (0x40400000C00000A5, .wr8Bg2cnt0 0xA5), (0x20400000C0000000, .rd8Bg2cnt0),
     (0x40400000D00000A5, .wr8Bg2cnt1 0xA5), (0x20400000D0000000, .rd8Bg2cnt1),
     (0x50400000C000C35A, .wr16Bg2cnt 0xC35A), (0x30400000C0000000, .rd16Bg2cnt),
     (0x40400000E00000A5, .wr8Bg3cnt0 0xA5), (0x20400000E0000000, .rd8Bg3cnt0),
     (0x40400000F00000A5, .wr8Bg3cnt1 0xA5), (0x20400000F0000000, .rd8Bg3cnt1),
     (0x50400000E000C35A, .wr16Bg3cnt 0xC35A), (0x30400000E0000000, .rd16Bg3cnt)] = true := by decide

set_option maxRecDepth 10000 in
theorem test_decode_scroll_h : decodes
    [(0x40400001000000A5, .wr8Bg0hofs0 0xA5), (0x2040000100000000, .rd8Bg0hofs0),
     (0x40400001100000A5, .wr8Bg0hofs1 0xA5), (0x2040000110000000, .rd8Bg0hofs1),
     (0x504000010000C35A, .wr16Bg0hofs 0xC35A), (0x3040000100000000, .rd16Bg0hofs),
     (0x40400001400000A5, .wr8Bg1hofs0 0xA5), (0x2040000140000000, .rd8Bg1hofs0),
     (0x40400001500000A5, .wr8Bg1hofs1 0xA5), (0x2040000150000000, .rd8Bg1hofs1),
     (0x504000014000C35A, .wr16Bg1hofs 0xC35A), (0x3040000140000000, .rd16Bg1hofs),
     (0x40400001800000A5, .wr8Bg2hofs0 0xA5), (0x2040000180000000, .rd8Bg2hofs0),
     (0x40400001900000A5, .wr8Bg2hofs1 0xA5), (0x2040000190000000, .rd8Bg2hofs1),
     (0x504000018000C35A, .wr16Bg2hofs 0xC35A), (0x3040000180000000, .rd16Bg2hofs),
     (0x40400001C00000A5, .wr8Bg3hofs0 0xA5), (0x20400001C0000000, .rd8Bg3hofs0),
     (0x40400001D00000A5, .wr8Bg3hofs1 0xA5), (0x20400001D0000000, .rd8Bg3hofs1),
     (0x50400001C000C35A, .wr16Bg3hofs 0xC35A), (0x30400001C0000000, .rd16Bg3hofs)] = true := by decide

set_option maxRecDepth 10000 in
theorem test_decode_scroll_v : decodes
    [(0x40400001200000A5, .wr8Bg0vofs0 0xA5), (0x2040000120000000, .rd8Bg0vofs0),
     (0x40400001300000A5, .wr8Bg0vofs1 0xA5), (0x2040000130000000, .rd8Bg0vofs1),
     (0x504000012000C35A, .wr16Bg0vofs 0xC35A), (0x3040000120000000, .rd16Bg0vofs),
     (0x40400001600000A5, .wr8Bg1vofs0 0xA5), (0x2040000160000000, .rd8Bg1vofs0),
     (0x40400001700000A5, .wr8Bg1vofs1 0xA5), (0x2040000170000000, .rd8Bg1vofs1),
     (0x504000016000C35A, .wr16Bg1vofs 0xC35A), (0x3040000160000000, .rd16Bg1vofs),
     (0x40400001A00000A5, .wr8Bg2vofs0 0xA5), (0x20400001A0000000, .rd8Bg2vofs0),
     (0x40400001B00000A5, .wr8Bg2vofs1 0xA5), (0x20400001B0000000, .rd8Bg2vofs1),
     (0x50400001A000C35A, .wr16Bg2vofs 0xC35A), (0x30400001A0000000, .rd16Bg2vofs),
     (0x40400001E00000A5, .wr8Bg3vofs0 0xA5), (0x20400001E0000000, .rd8Bg3vofs0),
     (0x40400001F00000A5, .wr8Bg3vofs1 0xA5), (0x20400001F0000000, .rd8Bg3vofs1),
     (0x50400001E000C35A, .wr16Bg3vofs 0xC35A), (0x30400001E0000000, .rd16Bg3vofs)] = true := by decide

set_option maxRecDepth 10000 in
theorem test_decode_bg2p : decodes
    [(0x40400002000000A5, .wr8Bg2pa0 0xA5), (0x2040000200000000, .rd8Bg2pa0),
     (0x40400002100000A5, .wr8Bg2pa1 0xA5), (0x2040000210000000, .rd8Bg2pa1),
     (0x504000020000C35A, .wr16Bg2pa 0xC35A), (0x3040000200000000, .rd16Bg2pa),
     (0x40400002200000A5, .wr8Bg2pb0 0xA5), (0x2040000220000000, .rd8Bg2pb0),
     (0x40400002300000A5, .wr8Bg2pb1 0xA5), (0x2040000230000000, .rd8Bg2pb1),
     (0x504000022000C35A, .wr16Bg2pb 0xC35A), (0x3040000220000000, .rd16Bg2pb),
     (0x40400002400000A5, .wr8Bg2pc0 0xA5), (0x2040000240000000, .rd8Bg2pc0),
     (0x40400002500000A5, .wr8Bg2pc1 0xA5), (0x2040000250000000, .rd8Bg2pc1),
     (0x504000024000C35A, .wr16Bg2pc 0xC35A), (0x3040000240000000, .rd16Bg2pc),
     (0x40400002600000A5, .wr8Bg2pd0 0xA5), (0x2040000260000000, .rd8Bg2pd0),
     (0x40400002700000A5, .wr8Bg2pd1 0xA5), (0x2040000270000000, .rd8Bg2pd1),
     (0x504000026000C35A, .wr16Bg2pd 0xC35A), (0x3040000260000000, .rd16Bg2pd)] = true := by decide

set_option maxRecDepth 10000 in
theorem test_decode_bg2xy : decodes
    [(0x40400002800000A5, .wr8Bg2x0 0xA5), (0x2040000280000000, .rd8Bg2x0), (0x40400002900000A5, .wr8Bg2x1 0xA5),
     (0x2040000290000000, .rd8Bg2x1), (0x40400002A00000A5, .wr8Bg2x2 0xA5), (0x20400002A0000000, .rd8Bg2x2),
     (0x40400002B00000A5, .wr8Bg2x3 0xA5), (0x20400002B0000000, .rd8Bg2x3),
     (0x504000028000C35A, .wr16Bg2x0 0xC35A), (0x3040000280000000, .rd16Bg2x0),
     (0x50400002A000C35A, .wr16Bg2x2 0xC35A), (0x30400002A0000000, .rd16Bg2x2),
     (0x40400002C00000A5, .wr8Bg2y0 0xA5), (0x20400002C0000000, .rd8Bg2y0), (0x40400002D00000A5, .wr8Bg2y1 0xA5),
     (0x20400002D0000000, .rd8Bg2y1), (0x40400002E00000A5, .wr8Bg2y2 0xA5), (0x20400002E0000000, .rd8Bg2y2),
     (0x40400002F00000A5, .wr8Bg2y3 0xA5), (0x20400002F0000000, .rd8Bg2y3),
     (0x50400002C000C35A, .wr16Bg2y0 0xC35A), (0x30400002C0000000, .rd16Bg2y0),
     (0x50400002E000C35A, .wr16Bg2y2 0xC35A), (0x30400002E0000000, .rd16Bg2y2)] = true := by decide

set_option maxRecDepth 10000 in
theorem test_decode_bg3p : decodes
    [(0x40400003000000A5, .wr8Bg3pa0 0xA5), (0x2040000300000000, .rd8Bg3pa0),
     (0x40400003100000A5, .wr8Bg3pa1 0xA5), (0x2040000310000000, .rd8Bg3pa1),
     (0x504000030000C35A, .wr16Bg3pa 0xC35A), (0x3040000300000000, .rd16Bg3pa),
     (0x40400003200000A5, .wr8Bg3pb0 0xA5), (0x2040000320000000, .rd8Bg3pb0),
     (0x40400003300000A5, .wr8Bg3pb1 0xA5), (0x2040000330000000, .rd8Bg3pb1),
     (0x504000032000C35A, .wr16Bg3pb 0xC35A), (0x3040000320000000, .rd16Bg3pb),
     (0x40400003400000A5, .wr8Bg3pc0 0xA5), (0x2040000340000000, .rd8Bg3pc0),
     (0x40400003500000A5, .wr8Bg3pc1 0xA5), (0x2040000350000000, .rd8Bg3pc1),
     (0x504000034000C35A, .wr16Bg3pc 0xC35A), (0x3040000340000000, .rd16Bg3pc),
     (0x40400003600000A5, .wr8Bg3pd0 0xA5), (0x2040000360000000, .rd8Bg3pd0),
     (0x40400003700000A5, .wr8Bg3pd1 0xA5), (0x2040000370000000, .rd8Bg3pd1),
     (0x504000036000C35A, .wr16Bg3pd 0xC35A), (0x3040000360000000, .rd16Bg3pd)] = true := by decide

set_option maxRecDepth 10000 in
theorem test_decode_bg3xy : decodes
    [(0x40400003800000A5, .wr8Bg3x0 0xA5), (0x2040000380000000, .rd8Bg3x0), (0x40400003900000A5, .wr8Bg3x1 0xA5),
     (0x2040000390000000, .rd8Bg3x1), (0x40400003A00000A5, .wr8Bg3x2 0xA5), (0x20400003A0000000, .rd8Bg3x2),
     (0x40400003B00000A5, .wr8Bg3x3 0xA5), (0x20400003B0000000, .rd8Bg3x3),
     (0x504000038000C35A, .wr16Bg3x0 0xC35A), (0x3040000380000000, .rd16Bg3x0),
     (0x50400003A000C35A, .wr16Bg3x2 0xC35A), (0x30400003A0000000, .rd16Bg3x2),
     (0x40400003C00000A5, .wr8Bg3y0 0xA5), (0x20400003C0000000, .rd8Bg3y0), (0x40400003D00000A5, .wr8Bg3y1 0xA5),
     (0x20400003D0000000, .rd8Bg3y1), (0x40400003E00000A5, .wr8Bg3y2 0xA5), (0x20400003E0000000, .rd8Bg3y2),
     (0x40400003F00000A5, .wr8Bg3y3 0xA5), (0x20400003F0000000, .rd8Bg3y3),
     (0x50400003C000C35A, .wr16Bg3y0 0xC35A), (0x30400003C0000000, .rd16Bg3y0),
     (0x50400003E000C35A, .wr16Bg3y2 0xC35A), (0x30400003E0000000, .rd16Bg3y2)] = true := by decide

set_option maxRecDepth 10000 in
theorem test_decode_windows_1 : decodes
    [(0x40400004000000A5, .wr8Win0h0 0xA5), (0x2040000400000000, .rd8Win0h0),
     (0x40400004100000A5, .wr8Win0h1 0xA5), (0x2040000410000000, .rd8Win0h1),
     (0x504000040000C35A, .wr16Win0h 0xC35A), (0x3040000400000000, .rd16Win0h),
     (0x40400004200000A5, .wr8Win1h0 0xA5), (0x2040000420000000, .rd8Win1h0),
     (0x40400004300000A5, .wr8Win1h1 0xA5), (0x2040000430000000, .rd8Win1h1),
     (0x504000042000C35A, .wr16Win1h 0xC35A), (0x3040000420000000, .rd16Win1h),
     (0x40400004400000A5, .wr8Win0v0 0xA5), (0x2040000440000000, .rd8Win0v0),
     (0x40400004500000A5, .wr8Win0v1 0xA5), (0x2040000450000000, .rd8Win0v1),
     (0x504000044000C35A, .wr16Win0v 0xC35A), (0x3040000440000000, .rd16Win0v)] = true := by decide

set_option maxRecDepth 10000 in
theorem test_decode_windows_2 : decodes
    [(0x40400004600000A5, .wr8Win1v0 0xA5), (0x2040000460000000, .rd8Win1v0),
     (0x40400004700000A5, .wr8Win1v1 0xA5), (0x2040000470000000, .rd8Win1v1),
     (0x504000046000C35A, .wr16Win1v 0xC35A), (0x3040000460000000, .rd16Win1v),
     (0x40400004800000A5, .wr8Winin0 0xA5), (0x2040000480000000, .rd8Winin0),
     (0x40400004900000A5, .wr8Winin1 0xA5), (0x2040000490000000, .rd8Winin1),
     (0x504000048000C35A, .wr16Winin 0xC35A), (0x3040000480000000, .rd16Winin),
     (0x40400004A00000A5, .wr8Winout0 0xA5), (0x20400004A0000000, .rd8Winout0),
     (0x40400004B00000A5, .wr8Winout1 0xA5), (0x20400004B0000000, .rd8Winout1),
     (0x50400004A000C35A, .wr16Winout 0xC35A), (0x30400004A0000000, .rd16Winout)] = true := by decide

set_option maxRecDepth 10000 in
theorem test_decode_blend : decodes
    [(0x40400004C00000A5, .wr8Mosaic0 0xA5), (0x20400004C0000000, .rd8Mosaic0),
     (0x40400004D00000A5, .wr8Mosaic1 0xA5), (0x20400004D0000000, .rd8Mosaic1),
     (0x50400004C000C35A, .wr16Mosaic 0xC35A), (0x30400004C0000000, .rd16Mosaic),
     (0x40400005000000A5, .wr8Bldcnt0 0xA5), (0x2040000500000000, .rd8Bldcnt0),
     (0x40400005100000A5, .wr8Bldcnt1 0xA5), (0x2040000510000000, .rd8Bldcnt1),
     (0x504000050000C35A, .wr16Bldcnt 0xC35A), (0x3040000500000000, .rd16Bldcnt),
     (0x40400005200000A5, .wr8Bldalpha0 0xA5), (0x2040000520000000, .rd8Bldalpha0),
     (0x40400005300000A5, .wr8Bldalpha1 0xA5), (0x2040000530000000, .rd8Bldalpha1),
     (0x504000052000C35A, .wr16Bldalpha 0xC35A), (0x3040000520000000, .rd16Bldalpha),
     (0x40400005400000A5, .wr8Bldy0 0xA5), (0x2040000540000000, .rd8Bldy0), (0x40400005500000A5, .wr8Bldy1 0xA5),
     (0x2040000550000000, .rd8Bldy1), (0x504000054000C35A, .wr16Bldy 0xC35A), (0x3040000540000000, .rd16Bldy)] = true := by decide

set_option maxRecDepth 10000 in
theorem test_decode_timers_l : decodes
    [(0x40400010000000A5, .wr8Tm0cntL0 0xA5), (0x2040001000000000, .rd8Tm0cntL0),
     (0x40400010100000A5, .wr8Tm0cntL1 0xA5), (0x2040001010000000, .rd8Tm0cntL1),
     (0x504000100000C35A, .wr16Tm0cntL 0xC35A), (0x3040001000000000, .rd16Tm0cntL),
     (0x40400010400000A5, .wr8Tm1cntL0 0xA5), (0x2040001040000000, .rd8Tm1cntL0),
     (0x40400010500000A5, .wr8Tm1cntL1 0xA5), (0x2040001050000000, .rd8Tm1cntL1),
     (0x504000104000C35A, .wr16Tm1cntL 0xC35A), (0x3040001040000000, .rd16Tm1cntL),
     (0x40400010800000A5, .wr8Tm2cntL0 0xA5), (0x2040001080000000, .rd8Tm2cntL0),
     (0x40400010900000A5, .wr8Tm2cntL1 0xA5), (0x2040001090000000, .rd8Tm2cntL1),
     (0x504000108000C35A, .wr16Tm2cntL 0xC35A), (0x3040001080000000, .rd16Tm2cntL),
     (0x40400010C00000A5, .wr8Tm3cntL0 0xA5), (0x20400010C0000000, .rd8Tm3cntL0),
     (0x40400010D00000A5, .wr8Tm3cntL1 0xA5), (0x20400010D0000000, .rd8Tm3cntL1),
     (0x50400010C000C35A, .wr16Tm3cntL 0xC35A), (0x30400010C0000000, .rd16Tm3cntL)] = true := by decide

set_option maxRecDepth 10000 in
theorem test_decode_timers_h : decodes
    [(0x40400010200000A5, .wr8Tm0cntH0 0xA5), (0x2040001020000000, .rd8Tm0cntH0),
     (0x40400010300000A5, .wr8Tm0cntH1 0xA5), (0x2040001030000000, .rd8Tm0cntH1),
     (0x504000102000C35A, .wr16Tm0cntH 0xC35A), (0x3040001020000000, .rd16Tm0cntH),
     (0x40400010600000A5, .wr8Tm1cntH0 0xA5), (0x2040001060000000, .rd8Tm1cntH0),
     (0x40400010700000A5, .wr8Tm1cntH1 0xA5), (0x2040001070000000, .rd8Tm1cntH1),
     (0x504000106000C35A, .wr16Tm1cntH 0xC35A), (0x3040001060000000, .rd16Tm1cntH),
     (0x40400010A00000A5, .wr8Tm2cntH0 0xA5), (0x20400010A0000000, .rd8Tm2cntH0),
     (0x40400010B00000A5, .wr8Tm2cntH1 0xA5), (0x20400010B0000000, .rd8Tm2cntH1),
     (0x50400010A000C35A, .wr16Tm2cntH 0xC35A), (0x30400010A0000000, .rd16Tm2cntH),
     (0x40400010E00000A5, .wr8Tm3cntH0 0xA5), (0x20400010E0000000, .rd8Tm3cntH0),
     (0x40400010F00000A5, .wr8Tm3cntH1 0xA5), (0x20400010F0000000, .rd8Tm3cntH1),
     (0x50400010E000C35A, .wr16Tm3cntH 0xC35A), (0x30400010E0000000, .rd16Tm3cntH)] = true := by decide

set_option maxRecDepth 10000 in
theorem test_decode_memory : decodes
    [(0x2050002A60000000, .rd8Pram 0x2A6), (0x3050002A60000000, .rd16Pram 0x2A6),
     (0x4050002A600000A5, .wr8Pram 0x2A6 0xA5), (0x5050002A6000C35A, .wr16Pram 0x2A6 0xC35A),
     (0x20600BEEC0000000, .rd8VramLo 0xBEEC), (0x30600BEEC0000000, .rd16VramLo 0xBEEC),
     (0x40600BEEC00000A5, .wr8VramLo 0xBEEC 0xA5), (0x50600BEEC000C35A, .wr16VramLo 0xBEEC 0xC35A),
     (0x2060124680000000, .rd8VramHi 0x2468), (0x3060124680000000, .rd16VramHi 0x2468),
     (0x40601246800000A5, .wr8VramHi 0x2468 0xA5), (0x506012468000C35A, .wr16VramHi 0x2468 0xC35A),
     (0x2070002A60000000, .rd8Oam 0x2A6), (0x3070002A60000000, .rd16Oam 0x2A6),
     (0x4070002A600000A5, .wr8Oam 0x2A6 0xA5), (0x5070002A6000C35A, .wr16Oam 0x2A6 0xC35A)] = true := by decide

set_option maxRecDepth 10000 in
theorem test_decode_host : decodes
    [(0x00000000000004B1, .adv 0x4B1),
     (0x1000000000000000, .rst),
     (0x2040000020000000, .rd8 0x4000002),
     (0x3040000010000000, .rd16 0x4000001),
     (0x40400000200000A5, .wr8 0x4000002 0xA5),
     (0x504000001000C35A, .wr16 0x4000001 0xC35A)] = true := by decide

/-! ## Decoding: the words of the host commands and event tags (R110, R112) -/

set_option maxRecDepth 10000 in
theorem test_decode_event_tags :
    [0, 1, 2, 3, 4, 5, 6, 7].map (decodeTableWord 8) =
      [some (.eScanline 0), some (.eHblanksearch 0), some (.eHblank 0), some (.eVblankscanline 0),
       some (.eVblankhblank 0), some .eReserved5, some .eReserved6, some .eReserved7] := by decide

/-- R150: an unused opcode, bits that must be zero, a delta over the bound, no 64-bit word. -/
theorem test_decode_refuses :
    [0x6000000000000000, 0xF040000000000000, 0x0000000100000000, 0x000000007FFFFC01, 0x1000000000000001,
     0x2040000000000001, 0x3040000000010000, 0x4040000000000100, 0x5040000000010000, 0x10000000000000000].map
      (decodeTableWord 64) = List.replicate 10 none := by decide

theorem test_decode_refuses_nbits : decodeTableWord 32 0 = none ∧ decodeTableWord 8 8 = none := by decide

/-- R113: the bound itself is legal. -/
theorem test_decode_bound : decodeTableWord 64 0x7FFFFC00 = some (.adv 0x7FFFFC00) := by decide

/-! ## WellFormed: each check refuses an ill-formed term -/

theorem test_wf_adv : WellFormed (.adv 0x7FFFFC00) = true ∧ WellFormed (.adv 0x7FFFFC01) = false := by decide
theorem test_wf_rd8 : WellFormed (.rd8 0x04000002) = true ∧ WellFormed (.rd8 0x04000000) = false := by decide
theorem test_wf_rd16 : WellFormed (.rd16 0x04000001) = true ∧ WellFormed (.rd16 0x04000000) = false := by decide
theorem test_wf_rd16_memory : WellFormed (.rd16 0x05000001) = false ∧ WellFormed (.rd16 0x05000400) = true := by decide
theorem test_wf_wr8 : WellFormed (.wr8 0x04000056 1) = true ∧ WellFormed (.wr8 0x07000000 1) = false := by decide
theorem test_wf_wr16 : WellFormed (.wr16 0x04000055 1) = true ∧ WellFormed (.wr16 0x04000054 1) = false := by decide
theorem test_wf_events :
    [Instr.eScanline 0x7FFFFFFF, .eHblanksearch 0x7FFFFFFF, .eHblank 0x7FFFFFFF, .eVblankscanline 0x7FFFFFFF,
     .eVblankhblank 0x7FFFFFFF].all WellFormed = true ∧
    [Instr.eScanline 0x80000000, .eHblanksearch 0x80000000, .eHblank 0x80000000, .eVblankscanline 0x80000000,
     .eVblankhblank 0x80000000].any WellFormed = false := by decide

/-! ## One step, with the results of spec 95 -/

/-- The state after an instruction; the state itself where it stops. -/
def after (i : Instr) (s : State) : State :=
  match exec i s with
  | .next t => t
  | .fault _ => s
  | .refused _ => s

/-- Does the instruction answer a next state? -/
def completes (i : Instr) (s : State) : Bool :=
  match exec i s with
  | .next _ => true
  | .fault _ => false
  | .refused _ => false

/-- The value a halfword read of an address leaves. -/
def value16 (addr : BitVec 32) (s : State) : Option ReadValue := (after (.rd16 addr) s).readout

/-- The reset state at the end of a phase of a line, at a cycle. -/
def endOf (p : Phase) (line : BitVec 8) (cycle : Word64) : State :=
  { State.reset with ppu := ⟨p, line⟩, sched := ⟨cycle, [], 1⟩ }

/-- Timer 0 of the reset state. -/
def withTimer (t : Timer) : State := { State.reset with tm := ⟨t, Timer.reset, Timer.reset, Timer.reset⟩ }

set_option maxRecDepth 20000 in
/-- A step that fetches a word of the opcode table runs it: ADV 960 (B1.2). -/
theorem test_step_adv :
    (match step (State.reset.withFetchWord 64 0x00000000000003C0) with
      | .next t => decide (t.sched = ⟨960, [⟨1006, 1, .hblankSearch⟩], 2⟩) && decide (t.ppu = ⟨.hblankSearch, 0⟩)
      | .fault _ => false
      | .refused _ => false) = true := by decide

/-- A step that fetches an event tag runs the handler. -/
theorem test_step_event :
    (match step (State.reset.withFetchWord 8 1) with
      | .next t => decide (t.ppu = ⟨.hblank, 0⟩) && t.dispstat.hblankFlag
      | .fault _ => false
      | .refused _ => false) = true := by decide

set_option maxRecDepth 20000 in
/-- B1.3: two events in one ADV. -/
theorem test_adv_1006 :
    (after (.adv 1006) State.reset).sched = ⟨1006, [⟨1232, 2, .hblank⟩], 3⟩ ∧
    (after (.adv 1006) State.reset).out = [⟨.request .hblank, 1006, some 1006⟩] := by decide

/-- B1.6, B6.1: one cycle more faults. -/
theorem test_adv_1007 : (after (.adv 1007) State.reset).fault = some .negativeDelay := by decide

/-- R21: no ADV carries the counter past 2^64 - 1. -/
theorem test_adv_overflow :
    exec (.adv 1) (endOf .scanline 0 0xFFFFFFFFFFFFFFFF) = .refused .cycleCounterOverflow := rfl

/-- B1.4: lateness is compensated. -/
theorem test_hblankSearch_late :
    (after (.eHblanksearch 41) (endOf .hblankSearch 0 1047)).sched.queue = [⟨1232, 1, .hblank⟩] ∧
    (after (.eHblanksearch 41) (endOf .hblankSearch 0 1047)).out = [⟨.request .hblank, 1047, some 1006⟩] := by decide

/-- B2.1: the video request starts at line 2. -/
theorem test_hblankSearch_video :
    ((after (.eHblanksearch 0) (endOf .hblankSearch 1 2238)).out.map fun r => r.what) = [.request .hblank] ∧
    ((after (.eHblanksearch 0) (endOf .hblankSearch 2 3470)).out.map fun r => r.what) =
      [.request .hblank, .request .video] := by decide

set_option maxRecDepth 20000 in
/-- B2.5: the HBlank interrupt of a visible line comes at the end of Scanline. -/
theorem test_scanline_irq :
    (after (.eScanline 0)
      { endOf .scanline 0 960 with dispstat := { Dispstat.reset with hblankIrqEnable := true } }).out =
      [⟨.raise .hblank, 960, some 960⟩] := by decide

/-- B2.2, B2.6 (L = 160): the order at line 160. -/
theorem test_hblank_line_160 :
    ((after (.eHblank 0)
      { endOf .hblank 159 197120 with
        dispstat := ⟨false, true, false, true, false, true, 160⟩ }).out.map fun r => r.what) =
      [.raise .vcount, .draw [], .request .vblank, .raise .vblank] := by decide

/-- B2.3: the V-blank flag is set at line 160. -/
theorem test_hblank_flags :
    value16 0x04000004
      (after (.eHblank 0)
        { endOf .hblank 159 197120 with dispstat := ⟨false, true, false, true, false, false, 0⟩ }) =
      some (.half 0x0009) := by decide

/-- B2.4: requests in blanking. -/
theorem test_vblankScanline_requests :
    [160, 161, 162, 163].map (fun line =>
      ((after (.eVblankscanline 0) (endOf .vblankScanline line 198126)).out.map fun r => r.what)) =
      [[.request .video], [.request .video], [.stopVideoTransfer], []] := by decide

/-- B2.3: the V-blank flag is cleared when line 226 ends, not before. -/
theorem test_vblankHblank_flag :
    (after (.eVblankhblank 0)
      { endOf .vblankHblank 226 279664 with dispstat := ⟨true, true, false, false, false, false, 9⟩ }).dispstat =
      ⟨false, false, false, false, false, false, 9⟩ ∧
    (after (.eVblankhblank 0)
      { endOf .vblankHblank 225 278432 with dispstat := ⟨true, true, false, false, false, false, 9⟩ }).dispstat =
      ⟨true, false, false, false, false, false, 9⟩ := by decide

/-- B2.1: line 227 is followed by line 0. -/
theorem test_vblankHblank_wrap :
    (after (.eVblankhblank 0) (endOf .vblankHblank 227 280896)).ppu = ⟨.scanline, 0⟩ ∧
    (after (.eVblankhblank 0) (endOf .vblankHblank 227 280896)).sched.queue = [⟨281856, 1, .scanline⟩] ∧
    (after (.eVblankhblank 0) (endOf .vblankHblank 227 280896)).dispstat.vcountFlag = true := by decide

/-- R443. -/
theorem test_reserved_tags :
    [Instr.eReserved5, .eReserved6, .eReserved7].map (fun i => (after i State.reset).fault) =
      List.replicate 3 (some .phase) := by decide

/-- B2.9: the mosaic counter and the accumulators, first line. -/
theorem test_hblank_mosaic :
    let s := after (.eHblank 0)
      { endOf .hblank 2 3696 with
        bgcnt := ⟨Bgcnt.reset, Bgcnt.reset, { Bgcnt.reset with mosaicEnable := true }, Bgcnt.reset⟩
        mosaic := ⟨⟨0, 2, 2⟩, ⟨0, 0, 0⟩⟩
        bgpb := ⟨0x0010, 0⟩
        bgpd := ⟨0x0100, 0x0100⟩ }
    s.mosaic.bg.counterY = 0 ∧ s.bgx.e0.current = 48 ∧ s.bgy.e0.current = 768 := by decide

/-- B2.10, B2.8: at line 160 the accumulators take the sign-extended reference point. -/
theorem test_hblank_reload :
    (after (.eHblank 0)
      { endOf .hblank 159 197120 with bgx := ⟨⟨0x0FFFFF00, 7⟩, ⟨0, 7⟩⟩ }).bgx.e0.current.toInt = -256 := by decide

/-- B3.1: field masks. -/
theorem test_masks :
    value16 0x04000000 (after (.wr16Dispcnt 0xFFFF) State.reset) = some (.half 0xFFFF) ∧
    value16 0x04000004 (after (.wr16Dispstat 0xFFFF) State.reset) = some (.half 0xFF38) ∧
    value16 0x04000006 (after (.wr16Vcount 0x00FF) State.reset) = some (.half 0x0000) ∧
    value16 0x04000008 (after (.wr16Bg0cnt 0xFFFF) State.reset) = some (.half 0xFFCF) ∧
    value16 0x04000048 (after (.wr16Winin 0xFFFF) State.reset) = some (.half 0x3F3F) := by decide

theorem test_masks_effects :
    value16 0x0400004A (after (.wr16Winout 0xFFFF) State.reset) = some (.half 0x3F3F) ∧
    value16 0x04000050 (after (.wr16Bldcnt 0xFFFF) State.reset) = some (.half 0x3FFF) ∧
    value16 0x04000052 (after (.wr16Bldalpha 0xFFFF) State.reset) = some (.half 0x1F1F) ∧
    value16 0x04000102 (after (.wr16Tm0cntH 0xFF7F) State.reset) = some (.half 0x0047) ∧
    value16 0x04000100 (after (.wr16Tm0cntL 0xABCD) State.reset) = some (.half 0x0000) := by decide

/-- B3.2: write-only fields. -/
theorem test_write_only :
    (after (.wr16Bg0hofs 0xFFFF) State.reset).bghofs.e0 = 0x1FF ∧
    (after (.wr16Bg2x2 0xF800) State.reset).bgx.e0.initial.toInt = -134217728 ∧
    (after (.wr16Win0h 0x040A) State.reset).winh.e0 = ⟨4, 10⟩ ∧
    (after (.wr16Mosaic 0x0013) State.reset).mosaic = ⟨⟨3, 1, 0⟩, ⟨0, 0, 0⟩⟩ := by decide

/-- B3.2, B3.5: a change to mode 1 or 2 reloads, the same mode does not. -/
theorem test_mode_reload :
    (after (.wr8Dispcnt0 1) { State.reset with bgx := ⟨⟨0x8000000, 0⟩, ⟨0, 0⟩⟩ }).bgx.e0.current.toInt = -134217728 ∧
    (after (.wr8Dispcnt0 2)
      { State.reset with dispcnt := { Dispcnt.reset with mode := 2 }, bgx := ⟨⟨5, 0⟩, ⟨0, 0⟩⟩ }).bgx.e0.current = 0 := by
  decide

/-- B3.3: byte lanes of the memories. -/
theorem test_memory :
    value16 0x05000000 (after (.wr8Pram 1 0xAB) State.reset) = some (.half 0xAB00) ∧
    (after (.rd8 0x06017FFF) (after (.wr16VramHi 0x7FFE 0x1234) State.reset)).readout = some (.byte 0x12) ∧
    value16 0x070003FE (after (.wr16Oam 0x3FE 0xBEEF) State.reset) = some (.half 0xBEEF) := by decide

/-- Storing 0 takes the entry out of the table again. -/
theorem test_memory_canonical :
    (after (.wr8VramLo 5 0) (after (.wr8VramLo 5 7) State.reset)).vram = [] := by decide

/-- B3.4: refused addresses. -/
theorem test_undecoded :
    ([0x04000002, 0x0400004E, 0x04000056, 0x04000110, 0x04000800, 0x05000400, 0x06018000, 0x06020000, 0x07000400,
      0x03000000] : List (BitVec 32)).any (fun a => completes (.rd8 a) State.reset) = false ∧
    completes (.wr16 0x04000003 0) State.reset = false := by decide

/-- R83: a halfword access at an odd address faults and writes nothing. -/
theorem test_misaligned :
    (after (.wr16Pram 1 0x1234) State.reset).fault = some .misaligned ∧
    (after (.wr16Pram 1 0x1234) State.reset).pram = [] ∧
    (after (.rd16 0x04000005) State.reset).fault = some .misaligned := by decide

/-- R441: a faulted block does nothing but RST. -/
theorem test_faulted :
    let s := { State.reset with fault := some .phase }
    (after (.wr16Dispcnt 3) s).dispcnt = Dispcnt.reset ∧ (after (.adv 5) s).sched.now = 0 ∧
    (after .rst s).fault = none := by decide

/-- B5.3: sub-tick carry of timer 0 at divider 64. -/
theorem test_timer_carry :
    ((⟨0xFFFE, 0xFFFE, 0, 1, false, true, true, false⟩ : Timer).free 127) =
      (⟨0xFFFF, 0xFFFE, 63, 1, false, true, true, false⟩, 0) ∧
    ((⟨0xFFFF, 0xFFFE, 63, 1, false, true, true, false⟩ : Timer).free 1) =
      (⟨0xFFFE, 0xFFFE, 0, 1, false, true, true, true⟩, 1) := by decide

/-- B5.6: several wraps in one step. -/
theorem test_timer_wraps :
    (after (.adv 40) (withTimer ⟨0xFFF0, 0xFFF0, 0, 0, false, true, true, false⟩)).tm.e0.counter = 0xFFF8 ∧
    (after (.adv 40) (withTimer ⟨0xFFF0, 0xFFF0, 0, 0, false, true, true, false⟩)).out =
      [⟨.raise (.timer .n0), 40, none⟩, ⟨.timerOverflow .n0 2, 40, none⟩] := by decide

/-- B5.7: the enable transition reloads. -/
theorem test_timer_enable :
    (after (.wr8Tm0cntH0 0x80) (withTimer ⟨0x1010, 0x1000, 5, 0, false, false, false, false⟩)).tm.e0 =
      ⟨0x1000, 0x1000, 5, 0, false, false, true, false⟩ ∧
    (after (.wr8Tm0cntH0 0x80) (withTimer ⟨0x1010, 0x1000, 0, 0, false, false, true, false⟩)).tm.e0.counter = 0x1010 := by
  decide

/-- B5.8: a cascade of four. -/
theorem test_timer_cascade :
    let up : Timer := ⟨0xFFFF, 0xFFFF, 0, 0, true, false, true, false⟩
    ((after (.adv 1) { State.reset with tm := ⟨{ up with cascade := false }, up, up, up⟩ }).out.map fun r => r.what) =
      [.timerOverflow .n0 1, .timerOverflow .n1 1, .timerOverflow .n2 1, .timerOverflow .n3 1] := by decide

/-- B5.9: timer 0 with its cascade bit set does not count. -/
theorem test_timer_zero_cascade :
    (after (.adv 100) (withTimer ⟨0, 0, 0, 0, true, false, true, false⟩)).tm.e0 = ⟨0, 0, 0, 0, true, false, true, false⟩ := by
  decide

/-- B4.1. -/
theorem test_blend5 :
    [blend5 8 8 31 0, blend5 8 8 1 0, blend5 16 16 31 31, blend5 16 0 7 31, blend5 0 16 7 31, blend5 3 5 10 20,
     blend5 0 0 31 31] = [15, 0, 31, 7, 31, 8, 0] := by decide

/-- B4.2. -/
theorem test_convertColor :
    [0x001F, 0x03E0, 0x7C00, 0x7FFF, 0, 0x3C0F].map (convertColor .argb32) =
      [0xFFF80000, 0xFF00F800, 0xFF0000F8, 0xFFF8F8F8, 0xFF000000, 0xFF780078] := by decide

/-- B4.3: bit 15 of a mode 3 pixel is ignored, last column. -/
theorem test_mode3 :
    compose
      { State.reset with dispcnt := ⟨3, false, false, false, false, false, 4⟩, vram := [(0x3BE, 0xFF), (0x3BF, 0xFF)] }
      1 239 = some 0x7FFF := by decide

/-- B4.7: a mode 4 pixel of each frame. -/
theorem test_mode4 :
    let s := fun frame : Bool =>
      { State.reset with
        dispcnt := ⟨4, false, frame, false, false, false, 4⟩
        pram := [(1, 0x7C), (2, 0xE0), (3, 0x03), (4, 0x1F)]
        vram := [(0, 0x01), (1, 0x02), (0xA000, 0x02)] }
    (compose (s false) 0 0, compose (s false) 0 1, compose (s false) 0 2, compose (s true) 0 0) =
      (some 0x03E0, some 0x001F, some 0x7C00, some 0x001F) := by decide

/-- B4.8: outside the 160 columns of mode 5 the backdrop shows. -/
theorem test_mode5 :
    let s := { State.reset with dispcnt := ⟨5, false, false, false, false, false, 4⟩, pram := [(1, 0x7C)], vram := [(0x13E, 0xE0), (0x13F, 0x03)] }
    (compose s 0 158, compose s 0 159, compose s 0 160) = (some 0, some 0x03E0, some 0x7C00) := by decide

/-- B4.9: a 16-colour tile, plain and flipped. -/
theorem test_text :
    let s :=
      { State.reset with
        dispcnt := ⟨0, false, false, false, false, false, 1⟩
        bgcnt := ⟨{ Bgcnt.reset with tileBlock := 1, mapBlock := 2 }, Bgcnt.reset, Bgcnt.reset, Bgcnt.reset⟩
        vram := [(0x1000, 0x01), (0x1001, 0x30), (0x1002, 0x01), (0x1003, 0x34), (0x4020, 0x21), (0x4023, 0x87)]
        pram := [(0x62, 1), (0x70, 8)] }
    (compose s 0 0, compose s 0 7, compose s 0 8, compose s 0 15) = (some 1, some 8, some 8, some 1) := by decide

/-- B4.15: an affine layer at texel -1 with and without wraparound. -/
theorem test_affine :
    let s := fun wrap : Bool =>
      { State.reset with
        dispcnt := ⟨2, false, false, false, false, false, 4⟩
        bgcnt := ⟨Bgcnt.reset, Bgcnt.reset, { Bgcnt.reset with mapBlock := 1, wraparound := wrap }, Bgcnt.reset⟩
        bgx := ⟨⟨0, -256⟩, ⟨0, 0⟩⟩
        vram := [(0x40, 0x01), (0x800, 0x01), (0x80F, 0x01)]
        pram := [(1, 0x7C), (2, 0x1F)] }
    (compose (s false) 0 0, compose (s false) 0 1, affineTexel (s true) (s true).bgcnt.e2 127 0) =
      (some 0x7C00, some 0x001F, some none) := by decide

/-- B4.16, B4.17: an object's texels, and which of two objects wins. -/
theorem test_objects :
    let s :=
      { State.reset with
        dispcnt := ⟨0, false, false, false, false, false, 0x10⟩
        oam := [(2, 0x0A), (4, 0x01), (5, 0x24), (10, 0x0B), (12, 0x01)]
        vram := [(0x10020, 0x21), (0x10021, 0x03)]
        pram := [(0x202, 0x10), (0x242, 0x1F), (0x244, 0xE0), (0x245, 0x03)] }
    ([0, 1].foldlM (objStep s 0 10) ObjSlot.empty, [0, 1].foldlM (objStep s 0 11) ObjSlot.empty) =
      (some ⟨some 0x001F, 1, false, false⟩, some ⟨some 0x0010, 0, false, false⟩) := by decide

/-- B4.21 (b), (c): a window range that wraps, and an empty one. -/
theorem test_window_ranges :
    [0, 3, 4, 9, 10, 239].map (WinRange.holds ⟨10, 4⟩) = [true, true, false, false, true, true] ∧
    [4, 5, 6].map (WinRange.holds ⟨5, 5⟩) = [false, false, false] := by decide

/-- B4.22: alpha, brighten, darken of the composed pixel. -/
theorem test_effects :
    alphaBlend 8 8 0x001F 0x7C00 = 0x3C0F ∧ alphaBlend 31 31 0x001F 0x7C00 = 0x7C1F ∧
    brighten 8 0x001F = 0x3DFF ∧ darken 8 0x001F = 0x000F ∧ darken 31 0x001F = 0 := by decide

/-- B4.23: a semi-transparent object blends with no first target and no effect selected. -/
theorem test_semi_transparent :
    effect { State.reset with bldcnt := ⟨⟨0, 1⟩, 0⟩, eva := 8, evb := 8 } 0x3F ⟨some 0x7FFF, 0, true, false⟩ 4 0x7FFF
      (some (0, 0x001F)) = 0x3DFF := by decide

/-! ## Witnesses: for every obligation with hypotheses, values that meet them (each clause, at its boundaries) -/

/-- A state with a command waiting, and the same state with a word that spells no command. -/
def waiting (w : Word64) : State := { State.reset with input := [w] }

/-- The reset state at the cycle of its event, the event not fired. -/
def dueState : State := { State.reset with sched := ⟨960, [⟨960, 0, .scanline⟩], 1⟩ }

/-- The reset state with a fault recorded. -/
def faultedState : State := { State.reset with fault := some .negativeDelay }

/-- The reset state on a line. -/
def onLine (line : BitVec 8) : State := { State.reset with ppu := ⟨.scanline, line⟩ }

/-- The reset state in a display mode with some of the enables of `dispcnt` set. -/
def inMode (mode : BitVec 3) (enable : BitVec 8) : State :=
  { State.reset with dispcnt := ⟨mode, false, false, false, false, false, enable⟩ }

theorem witness_step_command :
    (waiting 0x3C0).input = [0x3C0] ∧ decode (.command 0x3C0) = .ok (.adv 960) ∧
    (waiting 0x6000000000000000).input = [0x6000000000000000] ∧
    decode (.command 0x6000000000000000) = .error .reservedOpcode ∧ 2 ^ 64 - 1 < 2 ^ 64 := by decide

theorem witness_step_event :
    dueState.input = [] ∧ dueState.fault = none ∧ dueState.sched.queue = [⟨960, 0, .scanline⟩] ∧
    (960#64).toNat ≤ dueState.sched.now.toNat := by decide

theorem witness_step_idle_faulted : faultedState.input = [] ∧ faultedState.fault ≠ none := by decide

theorem witness_step_idle :
    State.reset.input = [] ∧
      ∀ e rest, State.reset.sched.queue = e :: rest → State.reset.sched.now.toNat < e.fireCycle.toNat := by
  refine ⟨rfl, fun e rest h => ?_⟩
  cases h
  decide

theorem witness_decode_encode :
    [Instr.adv 0, .adv 0x7FFFFC00, .rst, .rd8 0xFFFFFFFF, .rd16 0x04000055, .wr8Bg2x3 0xFF, .wr16VramHi 0x7FFE 0xFFFF,
      .eVblankhblank 0x7FFFFFFF, .eReserved7].all WellFormed = true := by decide

theorem witness_encode_decode : decode (.command 0x4050000000000001) = .ok (.wr8Pram 0 1) := by decide

/-- Both sides of `RefusedWords`, at the boundaries of every clause. -/
theorem witness_refused_words :
    [0x6000000000000000, 0x0000000100000000, 0x000000007FFFFC01, 0x1000000000000001, 0x2FFFFFFFF8000000,
      0x3000000000000001, 0x4000000000000100, 0x4000000008000000, 0x5000000000010000, 0x5000000008000000].map
      (fun w => (decode (.command w)).toOption) = List.replicate 10 none ∧
    [0x000000007FFFFC00, 0x1000000000000000, 0x2FFFFFFFF0000000, 0x3000000000000000, 0x40000000000000FF,
      0x500000000000FFFF].all (fun w => (decode (.command w)).toOption.isSome) = true := by decide

/-- The boundaries of every range of `AddressMap`. -/
theorem witness_address_map :
    ([0x05000000, 0x050003FF, 0x06000000, 0x06017FFF, 0x07000000, 0x070003FF, 0x04000000, 0x04000001, 0x04000004,
      0x0400004D, 0x04000050, 0x04000055, 0x04000100, 0x0400010F] : List (BitVec 32)).all
      (fun a => (decodeAddr a).isSome) = true ∧
    ([0x04FFFFFF, 0x05000400, 0x05FFFFFF, 0x06018000, 0x06FFFFFF, 0x07000400, 0x03FFFFFF, 0x04000002, 0x04000003,
      0x0400004E, 0x0400004F, 0x04000056, 0x040000FF, 0x04000110] : List (BitVec 32)).all
      (fun a => (decodeAddr a).isNone) = true ∧ State.reset.fault = none := by decide

theorem witness_generic_command : decodeAddr 0x04000000 ≠ none ∧ decodeAddr 0x070003FF ≠ none := by decide

theorem witness_faulted :
    faultedState.fault ≠ none ∧ WellFormed (.wr16Dispcnt 3) = true ∧ Instr.wr16Dispcnt 3 ≠ .rst ∧
    isBusCommand (.adv 5) = false ∧ WellFormed (.adv 5) = true ∧ Instr.adv 5 ≠ .rst ∧
    isBusCommand (.eScanline 0) = false ∧ WellFormed (.eScanline 0) = true := by decide

theorem witness_time :
    (∃ t, exec (.wr8Dispcnt0 1) State.reset = .next t) ∧ (1#32).toNat ≤ 0x7FFFFC00 ∧
    2 ^ 64 ≤ (endOf .scanline 0 0xFFFFFFFFFFFFFFFF).sched.now.toNat + (1#32).toNat := ⟨⟨_, rfl⟩, by decide, by decide⟩

theorem witness_adv :
    (0x7FFFFC00#32).toNat ≤ 0x7FFFFC00 ∧ State.reset.fault = none ∧
    State.reset.sched.now.toNat + (0x7FFFFC00#32).toNat < 2 ^ 64 := by decide

/-- One cycle before the deadline nothing is due. -/
theorem witness_adv_nothing_due :
    NothingDue (timerRun 959 { State.reset with sched := { State.reset.sched with now := 959 } }) := by
  intro e rest h
  obtain ⟨rfl, -⟩ := List.cons.inj h
  decide

theorem witness_add :
    ((-1 : Int) < 0) ∧ State.reset.fault = none ∧ ((0 : Int) ≤ 0) ∧
    ([⟨5, 1, .hblank⟩, ⟨5, 2, .hblank⟩, ⟨6, 0, .scanline⟩] : List Event).Pairwise (fun x y =>
      x.fireCycle.toNat < y.fireCycle.toNat ∨ (x.fireCycle = y.fireCycle ∧ x.seq.toNat < y.seq.toNat)) := by decide

theorem witness_storage : StorageInv State.reset ∧ ∃ t, exec (.wr8Pram 0 1) State.reset = .next t :=
  ⟨⟨rfl, rfl, rfl, rfl, rfl, rfl, rfl⟩, _, rfl⟩

theorem witness_timers : TimersInv State.reset ∧ ∃ t, exec (.adv 5) State.reset = .next t :=
  ⟨by unfold TimersInv Timer.settled; decide, _, rfl⟩

/-- The reset state meets the sequencer's invariant. -/
theorem reset_sequencer : SequencerInv State.reset :=
  ⟨by decide, fun _ => ⟨by decide, ⟨960, 0, .scanline⟩, rfl, rfl, by decide, by decide⟩, .inl rfl⟩

/-- With a command waiting too, so that the step is no idle one. -/
theorem witness_sequencer : SequencerInv (waiting 0x3C0) ∧ ∃ t, step (waiting 0x3C0) = .next t :=
  ⟨⟨by decide, fun _ => ⟨by decide, ⟨960, 0, .scanline⟩, rfl, rfl, by decide, by decide⟩, .inl rfl⟩, _, rfl⟩

theorem witness_small_advances :
    SequencerInv State.reset ∧ State.reset.fault = none ∧ (47#32).toNat ≤ 47 ∧
    State.reset.sched.now.toNat + (47#32).toNat + 1006 < 2 ^ 64 := ⟨reset_sequencer, by decide, by decide, by decide⟩

theorem witness_trace : ∃ t, exec (.adv 1006) State.reset = .next t := ⟨_, rfl⟩

theorem witness_independence :
    (∃ t, exec (.adv 960) State.reset = .next t) ∧ (∃ t, exec (.adv 960) (onLine 7) = .next t) ∧
    State.reset.fault = none ∧ (onLine 7).fault = none ∧ State.reset.tm = (onLine 7).tm :=
  ⟨⟨_, rfl⟩, ⟨_, rfl⟩, rfl, rfl, rfl⟩

theorem witness_scanline : State.reset.fault = none ∧ (46#32).toInt ≤ 46 ∧ 46 < (47#32).toInt := by decide
theorem witness_hblankSearch : State.reset.fault = none ∧ (226#32).toInt ≤ 226 ∧ 226 < (227#32).toInt := by decide

theorem witness_hblank :
    (onLine 159).fault = none ∧ (onLine 159).ppu.vcount = 159 ∧ (onLine 158).ppu.vcount ≠ 159 ∧
    (1006#32).toInt ≤ 1006 ∧ 1006 < (1007#32).toInt ∧ (960#32).toInt ≤ 960 ∧ 960 < (961#32).toInt := by decide

theorem witness_vblankScanline : (onLine 162).fault = none ∧ (226#32).toInt ≤ 226 ∧ 226 < (227#32).toInt := by decide

theorem witness_vblankHblank :
    (onLine 227).fault = none ∧ (onLine 227).ppu.vcount = 227 ∧ (onLine 226).ppu.vcount ≠ 227 ∧
    (960#32).toInt ≤ 960 ∧ 960 < (961#32).toInt ∧ (1006#32).toInt ≤ 1006 ∧ 1006 < (1007#32).toInt := by decide

/-- The reset state: registers, timers and memories are read and written with no fault recorded. -/
theorem witness_no_fault : State.reset.fault = none := rfl

theorem witness_vcount_match :
    let s := { State.reset with dispstat := { Dispstat.reset with vcountIrqEnable := true } }
    s.ppu.vcount = s.dispstat.vcountSetting ∧ s.dispstat.vcountFlag = false ∧ s.dispstat.vcountIrqEnable = true ∧
    State.reset.ppu.vcount = State.reset.dispstat.vcountSetting ∧ State.reset.dispstat.vcountIrqEnable = false ∧
    (onLine 1).ppu.vcount ≠ (onLine 1).dispstat.vcountSetting := by decide

theorem witness_accumulators : (onLine 160).ppu.vcount = 160 ∧ (onLine 159).ppu.vcount ≠ 160 := by decide

theorem witness_write_only :
    State.reset.fault = none ∧
    [Reg.bghofs .n3, .bgvofs .n0, .bgpa .n1, .bgpb .n0, .bgpc .n0, .bgpd .n1, .bgxLow .n0, .bgxHigh .n1, .bgyLow .n0,
      .bgyHigh .n0, .winh .n1, .winv .n0, .mosaic, .bldy].all writeOnly = true := by decide

theorem witness_halfword_rows :
    State.reset.fault = none ∧ Reg.mosaic ≠ .dispstat ∧ State.reset.params.vcountEvalOnWrite = false := by decide

theorem witness_memory :
    State.reset.fault = none ∧ 98303 < Config.spaceSize .vram ∧ (State.reset.mem .vram).wf = true ∧
    1022 < Config.spaceSize .oam ∧ 1022 % 2 = 0 ∧ (State.reset.mem .oam).wf = true := by decide

theorem witness_even :
    State.reset.fault = none ∧ decodeAddr 0x050003FE ≠ none ∧ (0x050003FE#32).getLsbD 0 = false ∧
    decodeAddr 0x050003FF ≠ none ∧ (0x050003FF#32).getLsbD 0 = true := by decide

theorem witness_bus :
    isBusCommand (.wr8Tm3cntH0 0x80) = true ∧ WellFormed (.wr8Tm3cntH0 0x80) = true ∧
    (∃ t, exec (.wr8Tm3cntH0 0x80) State.reset = .next t) ∧
    isBusCommand (.rd16 0x04000001) = true ∧ WellFormed (.rd16 0x04000001) = true ∧
    ∃ t, exec (.rd16 0x04000001) State.reset = .next t :=
  ⟨by decide, by decide, ⟨_, rfl⟩, by decide, by decide, ⟨_, rfl⟩⟩

/-- The last increment before the wrap, and the first that wraps. -/
theorem witness_free_running :
    let t : Timer := ⟨0xFFFE, 0x8000, 63, 1, false, true, true, false⟩
    0 ≤ ((withTimer t).tm.get .n0).cycles.toInt ∧ ((withTimer t).tm.get .n0).cycles.toNat + 65 < 2 ^ 31 ∧
    (63 + 64) / 2 ^ shiftOf t.frequency < 0x10000 - t.counter.toNat ∧
    0x10000 - t.counter.toNat ≤ (63 + 65) / 2 ^ shiftOf t.frequency := by decide

theorem witness_adds_up : (0 : Int) ≤ Timer.reset.cycles.toInt := by decide

theorem witness_cascade :
    let up : Timer := ⟨0xFFFF, 5, 0, 0, true, false, true, true⟩
    let s := { State.reset with tm := ⟨up, up, { up with counter := 5 }, Timer.reset⟩ }
    Ix4.n1.toNat = Ix4.n0.toNat + 1 ∧ Ix4.n3.toNat = Ix4.n2.toNat + 1 ∧
    (s.tm.get .n3).overflow = false ∧ (s.tm.get .n0).overflow = true ∧ (s.tm.get .n1).counter = 0xFFFF ∧
    (s.tm.get .n1).overflow = true ∧ (s.tm.get .n2).counter ≠ 0xFFFF := by decide

theorem witness_timer_run :
    (State.reset.tm.get .n2).enable = false ∧
    ((withTimer ⟨0, 0, 0, 0, false, false, true, false⟩).tm.get .n0).enable = true ∧
    ((withTimer ⟨0, 0, 0, 0, false, false, true, false⟩).tm.get .n0).cascade = false ∧
    ((withTimer ⟨0, 0, 0, 0, true, false, true, false⟩).tm.get .n0).enable = true ∧
    ((withTimer ⟨0, 0, 0, 0, true, false, true, false⟩).tm.get .n0).cascade = true := by decide

/-- No wrap after one cycle, and three wraps after five. -/
theorem witness_collapse :
    let low : Timer := ⟨0xFFFE, 0xFFFE, 0, 0, false, false, true, false⟩
    let s := { State.reset with tm := ⟨low, { low with cascade := true, counter := 7 }, Timer.reset, Timer.reset⟩ }
    (s.tm.get .n0).enable = true ∧ (s.tm.get .n0).cascade = false ∧ (s.tm.get .n0).overflow = false ∧
    (s.tm.get .n1).enable = true ∧ (s.tm.get .n1).cascade = true ∧
    ((s.tm.get .n0).free 1).2 = 0 ∧ ((s.tm.get .n0).free 6).2 = 3 := by decide

theorem witness_render :
    (onLine 160).fault = none ∧ 160 ≤ (onLine 160).ppu.vcount.toNat ∧ (onLine 159).ppu.vcount.toNat < 160 ∧
    (0 : Nat) ≠ 159 ∧ 239 < 240 ∧
    ({ onLine 159 with dispcnt := { Dispcnt.reset with forcedBlank := true } } : State).dispcnt.forcedBlank = true ∧
    (inMode 6 0).dispcnt.forcedBlank = false ∧ 6 ≤ (inMode 6 0).dispcnt.mode.toNat ∧
    (inMode 5 0).dispcnt.forcedBlank = false ∧ (inMode 5 0).dispcnt.mode.toNat < 6 := by decide

theorem witness_renderer_arrays : 159 < 160 ∧ 239 < 240 ∧ (inMode 5 0xFF).dispcnt.mode.toNat < 6 := by decide

theorem witness_layers :
    (inMode 1 0).dispcnt.enable.getLsbD Ix4.n3.toNat = false ∧ (inMode 1 8).dispcnt.mode = 1 ∧
    (inMode 2 3).dispcnt.mode = 2 ∧ (inMode 4 0xFF).dispcnt.mode = 4 ∧ Ix4.n0 ≠ .n2 ∧
    (inMode 0 8).dispcnt.mode = 0 ∧ (inMode 0 8).dispcnt.enable.getLsbD Ix4.n3.toNat = true ∧
    (inMode 1 2).dispcnt.enable.getLsbD Ix4.n1.toNat = true ∧ (inMode 1 4).dispcnt.enable.getLsbD Ix4.n2.toNat = true ∧
    (inMode 2 8).dispcnt.mode = 2 ∧ (inMode 2 8).dispcnt.enable.getLsbD Ix4.n3.toNat = true := by decide

theorem witness_bitmaps :
    (inMode 3 4).dispcnt.enable.getLsbD 2 = true ∧ (inMode 3 4).dispcnt.mode = 3 ∧ (inMode 4 4).dispcnt.mode = 4 ∧
    ((inMode 4 4).vram.read (0 + 240 * 159 + 239)).toNat = 0 ∧
    ({ inMode 4 4 with vram := [(0, 1)] }.vram.read (0 + 240 * 0 + 0)).toNat ≠ 0 ∧
    (inMode 5 4).dispcnt.mode = 5 ∧ 159 < 160 ∧ 127 < 128 ∧ 160 ≤ 160 ∧ 128 ≤ 128 := by decide

theorem witness_text_mosaic :
    let s :=
      { State.reset with
        bgcnt := ⟨{ Bgcnt.reset with mosaicEnable := true }, Bgcnt.reset, Bgcnt.reset, Bgcnt.reset⟩
        mosaic := ⟨⟨3, 3, 2⟩, ⟨0, 0, 0⟩⟩ }
    (s.bgcnt.get .n0).mosaicEnable = true ∧ s.mosaic.bg.counterY.toNat ≤ 2 ∧ (s.bgcnt.get .n0).fullPalette = false ∧
    ({ Bgcnt.reset with fullPalette := true } : Bgcnt).fullPalette = true := by decide

/-- Texel -1, texel 127, texel 128 of a layer of 128 by 128, and one with wraparound. -/
theorem witness_affine :
    let s := fun x : BitVec 32 => { State.reset with bgx := ⟨⟨0, x⟩, ⟨0, 0⟩⟩ }
    ((s 0).bgcnt.get (affineLayer .n0)).wraparound = false ∧
    (BitVec.ofInt 32 ((s 0xFFFFFF00).bgx.e0.current.toInt + (0 : Nat) * (s 0).bgpa.e0.toInt)).toInt / 256 < 0 ∧
    (BitVec.ofInt 32 ((s 0x7FFF).bgx.e0.current.toInt + (0 : Nat) * (s 0).bgpa.e0.toInt)).toInt / 256 < 128 ∧
    (128 : Int) ≤ (BitVec.ofInt 32 ((s 0x8000).bgx.e0.current.toInt + (0 : Nat) * (s 0).bgpa.e0.toInt)).toInt / 256 ∧
    (({ State.reset with bgcnt := Four.all { Bgcnt.reset with wraparound := true } } : State).bgcnt.get
      (affineLayer .n1)).wraparound = true := by decide

/-- Object 0 of one tile whose first texel is colour 1 of the object palette and whose second is transparent. -/
theorem witness_object_turns :
    let s := { inMode 0 0x10 with pram := [(0x202, 0x1F)], vram := [(0x10000, 0x01)] }
    let o := ObjAttr.ofHalves 0 0 0
    s.dispcnt.enable.getLsbD 4 = true ∧ objAttr s 0 = some o ∧ ¬(o.affine = false ∧ o.bit9 = true) ∧ o.mode ≠ 3 ∧
    o.shape ≠ 3 ∧ o.covers 0 0 = true ∧ o.covers 7 7 = true ∧ objColorAt s o 0 0 = some (some 0x1F) ∧
    objColorAt s o 7 7 = some none := by decide

/-- Sizes, an affine object inside and outside its texture, and the tiles that a bitmap mode hides. -/
theorem witness_object_pixels :
    let turned := ObjAttr.ofHalves 0x0300 0 0
    let s := { State.reset with oam := [(7, 0x01), (31, 0x01)] }
    127 < 128 ∧ (ObjAttr.ofHalves 0x8000 0xC000 0).shape ≠ 3 ∧ (ObjAttr.ofHalves 0 0 0).affine = false ∧
    turned.affine = true ∧ objTexel s turned 4 4 = some (some (0, 0)) ∧ objTexel s turned 3 4 = some none ∧
    (inMode 5 0x10).dispcnt.mode = 5 ∧ 511 % 1024 < 512 ∧ ¬(512 % 1024 < 512) ∧
    (ObjAttr.ofHalves 0x2000 0 0).colors256 = true ∧ (ObjAttr.ofHalves 0 0 0).colors256 = false := by decide

theorem witness_objects :
    State.reset.dispcnt.enable.getLsbD 4 = false ∧
    (let hidden := ObjAttr.ofHalves 0x0200 0 0
     objAttr { State.reset with oam := [(1, 0x02)] } 0 = some hidden ∧ hidden.affine = false ∧ hidden.bit9 = true) ∧
    (ObjAttr.ofHalves 0x0C00 0 0).mode = 3 ∧ (ObjAttr.ofHalves 0xC000 0 0).shape = 3 ∧
    (ObjAttr.ofHalves 0 0 0).covers 0 8 = false ∧ (ObjAttr.ofHalves 0 0 0).covers 7 7 = true ∧
    (1 : BitVec 2) ≠ 2 ∧ ObjSlot.empty.color = none ∧
    (0 : BitVec 2).toNat < (⟨some 1, 1, false, false⟩ : ObjSlot).priority.toNat ∧
    (⟨some 1, 1, false, false⟩ : ObjSlot).color ≠ none ∧
    (⟨some 1, 1, false, false⟩ : ObjSlot).priority.toNat ≤ (1 : BitVec 2).toNat := by decide

/-- Windows: none on; inside window 0 at its last column; outside it and inside window 1; the object window; outside all. -/
theorem witness_windows :
    let s := fun enable : BitVec 8 =>
      { inMode 0 enable with winh := ⟨⟨4, 10⟩, ⟨5, 15⟩⟩, winv := Two.both ⟨0, 1⟩ }
    (s 0x1F).dispcnt.enable.getLsbD 5 = false ∧ (s 0x1F).dispcnt.enable.getLsbD 6 = false ∧
    (s 0x1F).dispcnt.enable.getLsbD 7 = false ∧
    ((s 0x60).dispcnt.enable.getLsbD 5 = true ∧ ((s 0x60).winv.get .n0).holds 0 = true ∧
      ((s 0x60).winh.get .n0).holds 9 = true) ∧
    ((s 0x60).winh.get .n0).holds 10 = false ∧
    ((s 0x60).dispcnt.enable.getLsbD 6 = true ∧ ((s 0x60).winv.get .n1).holds 0 = true ∧
      ((s 0x60).winh.get .n1).holds 10 = true) ∧
    ((s 0x60).winh.get .n1).holds 15 = false ∧ (s 0x80).dispcnt.enable.getLsbD 7 = true ∧
    (⟨none, 3, false, true⟩ : ObjSlot).window = true ∧ ObjSlot.empty.window = false := by decide

theorem witness_compose :
    (∀ n, bgSlot (inMode 3 4) 0 n 0 = some (if n = .n2 then some 0 else none)) ∧
    objSlot (inMode 3 4) 0 0 = some ObjSlot.empty :=
  ⟨fun n => by cases n <;> decide, by decide⟩

theorem witness_effects :
    let s := fun sfx : BitVec 2 => { State.reset with bldcnt := ⟨⟨1, 2⟩, sfx⟩ }
    (0x1F#6).getLsbD 5 = false ∧ (0x3F#6).getLsbD 5 = true ∧ (s 1).bldcnt.targets.e0.getLsbD 0 = true ∧
    (s 1).bldcnt.targets.e1.getLsbD 1 = true ∧ (s 1).bldcnt.sfx = 1 ∧ (s 2).bldcnt.sfx = 2 ∧ (s 3).bldcnt.sfx = 3 ∧
    (s 0).bldcnt.sfx = 0 ∧ (s 1).bldcnt.targets.e1.getLsbD 5 = false ∧ (s 1).bldcnt.targets.e0.getLsbD 4 = false ∧
    (⟨some 1, 0, true, false⟩ : ObjSlot).alpha = true := by decide

theorem witness_blend : (8#5).toNat + (8#5).toNat = 16 ∧ (16#5).toNat + (0#5).toNat = 16 ∧ 2 < 3 := by decide

end Sys2Proof.Tests
end

section
/-! PROOFS. Time (R21) and the reset values (R70). -/

namespace Sys2Proof.Machine.StateProofs

open Sys2Proof Sys2Proof.Machine Sys2Proof.Machine.Claims

/-! ## The cycle counter (R21) -/

theorem busWrites_now {s t : State} (h : BusWrites s t) : t.sched.now = s.sched.now := by
  obtain ⟨hsched, -⟩ := h
  rw [hsched]

theorem dispatchEvent_now (p : Phase) (late : Int) (s : State) :
    (dispatchEvent p late s).sched.now = s.sched.now := by
  obtain ⟨-, -, -, hnow, -⟩ := (displayWrites_dispatchEvent p late s).keeps
  exact hnow

theorem exec_eventOf_now {p : Phase} {late : BitVec 32} {s t : State}
    (h : exec (eventOf p late) s = .next t) : t.sched.now = s.sched.now := by
  obtain ⟨-, rfl⟩ | ⟨-, l, rfl⟩ := exec_eventOf p late s h
  · rfl
  · exact dispatchEvent_now p l s

theorem exec_now_eq_or_adv_or_rst {i : Instr} {s t : State} (h : exec i s = .next t) :
    t.sched.now = s.sched.now ∨ (∃ d, i = .adv d) ∨ i = .rst := by
  obtain hbus | hrst | hadv | ⟨p, late, rfl⟩ := exec_cases i s t h
  · exact .inl (busWrites_now hbus)
  · exact .inr (.inr hrst)
  · exact .inr (.inl hadv)
  · exact .inl (exec_eventOf_now h)

/-- The three checks of ADV come in the order bound, fault, end of the counter (R113, R446, R21). -/
theorem exec_adv_overflow {s : State} {d : BitVec 32} (hbound : d.toNat ≤ Config.maxDelta)
    (hfault : s.fault = none) (hend : 2 ^ 64 ≤ s.sched.now.toNat + d.toNat) :
    exec (.adv d) s = .refused .cycleCounterOverflow := by
  have hunfaulted : ¬ s.faulted = true := fun hf => (faulted_eq s).1 hf hfault
  simp only [exec, execAdv]
  rw [if_neg (Nat.not_lt.2 hbound), if_neg hunfaulted, if_pos hend]

/-- Settles O11: bus commands keep `sched`, an event's handler keeps `sched.now`; the rest is ADV and RST. -/
theorem onlyAdvAndRstMoveTime : Obligations.OnlyAdvAndRstMoveTime :=
  ⟨rfl, fun _ _ _ h => exec_now_eq_or_adv_or_rst h,
    fun _ _ hbound hfault hend => exec_adv_overflow hbound hfault hend⟩

/-! ## The reset values (R70) -/

theorem reset_mem_read (sp : Space) (off : Nat) : (State.reset.mem sp).read off = 0 := by
  cases sp <;> rfl

theorem reset_hasResetValues : HasResetValues State.reset := by
  have background : ∀ n, State.reset.bgcnt.get n = ⟨0, 0, false, false, 0, false, 0⟩ ∧
      State.reset.bghofs.get n = 0 ∧ State.reset.bgvofs.get n = 0 := by
    intro n; cases n <;> exact ⟨rfl, rfl, rfl⟩
  have timer : ∀ k, State.reset.tm.get k = ⟨0, 0, 0, 0, false, false, false, false⟩ := by
    intro k; cases k <;> rfl
  refine ⟨rfl, rfl, rfl, rfl, rfl, rfl, rfl, background, ?pairs, rfl, rfl, rfl, rfl, rfl, rfl, rfl, rfl, rfl,
    reset_mem_read, timer, rfl⟩
  case pairs =>
    intro i; cases i <;> exact ⟨rfl, rfl, rfl, rfl, rfl, rfl, rfl, rfl, rfl, rfl, rfl⟩

/-- `HasResetValues` speaks of no field that RST takes over from the state before it. -/
theorem rst_hasResetValues (s : State) : HasResetValues s.rst := reset_hasResetValues

/-- Settles O8: RST builds its state from the one at power-on. -/
theorem resetValues : Obligations.ResetValues :=
  ⟨reset_hasResetValues, rfl, fun s => ⟨s.rst, rfl, rst_hasResetValues s, rfl⟩⟩

end Sys2Proof.Machine.StateProofs
end

section
/-! PROOFS. The address map (R81, R120). -/

namespace Sys2Proof.Machine.MemoryProofs

open Sys2Proof Sys2Proof.Machine Sys2Proof.Machine.Claims

/-! ## The addresses of the register bytes (R120) -/

theorem ix2_toNat_lt (i : Ix2) : i.toNat < 2 := by cases i <;> decide

theorem ix4_toNat_lt (n : Ix4) : n.toNat < 4 := by cases n <;> decide

theorem reg_offset_even (r : Reg) : r.offset % 2 = 0 := by
  cases r <;> simp only [Reg.offset] <;> omega

/-- The table of R120 has a row at every even offset up to 0x054 but 0x002 and 0x04E, and at 0x100 to 0x10E. -/
theorem exists_reg_offset_iff (h : Nat) :
    (∃ r : Reg, r.offset = 2 * h) ↔ (h < 0x2B ∧ h ≠ 1 ∧ h ≠ 0x27) ∨ (0x80 ≤ h ∧ h < 0x88) := by
  constructor
  · rintro ⟨r, hr⟩
    cases r with
    | bgcnt n | bghofs n | bgvofs n | tmcntL n | tmcntH n =>
      have := ix4_toNat_lt n
      simp only [Reg.offset] at hr
      omega
    | bgpa i | bgpb i | bgpc i | bgpd i | bgxLow i | bgxHigh i | bgyLow i | bgyHigh i | winh i | winv i =>
      have := ix2_toNat_lt i
      simp only [Reg.offset] at hr
      omega
    | _ =>
      simp only [Reg.offset] at hr
      omega
  · have display : ∀ h < 0x2B, h ≠ 1 ∧ h ≠ 0x27 → ∃ r ∈ Reg.all, r.offset = 2 * h := by decide
    have timers : ∀ k < 8, ∃ r ∈ Reg.timers, r.offset = 2 * (0x80 + k) := by decide
    rintro (⟨hlt, hholes⟩ | ⟨hge, hlt⟩)
    · obtain ⟨r, -, hr⟩ := display h hlt hholes
      exact ⟨r, hr⟩
    · obtain ⟨r, -, hr⟩ := timers (h - 0x80) (by omega)
      exact ⟨r, by omega⟩

/-- The display registers' and the timer registers' range, the two holes left out. -/
theorem exists_reg_addr_iff (a : Nat) :
    (∃ r lane, (Loc.reg r lane).addr = a) ↔
      (0x04000000 ≤ a ∧ a ≤ 0x04000055 ∧ a / 2 ≠ 0x04000002 / 2 ∧ a / 2 ≠ 0x0400004E / 2) ∨
      (0x04000100 ≤ a ∧ a ≤ 0x0400010F) := by
  have halfword := exists_reg_offset_iff ((a - 0x04000000) / 2)
  constructor
  · rintro ⟨r, lane, ha⟩
    have hlane : lane.toNat < 2 := by cases lane <;> decide
    have heven := reg_offset_even r
    simp only [Loc.addr, Reg.addr] at ha
    have hrow := halfword.1 ⟨r, by omega⟩
    omega
  · intro hrange
    obtain ⟨r, hr⟩ := halfword.2 (by omega)
    obtain hlo | hhi := Nat.mod_two_eq_zero_or_one a
    · exact ⟨r, .lo, by simp only [Loc.addr, Reg.addr, Lane.toNat]; omega⟩
    · exact ⟨r, .hi, by simp only [Loc.addr, Reg.addr, Lane.toNat]; omega⟩

/-! ## The decoder inverts `Loc.addr` -/

theorem loc_addr_lt {l : Loc} (h : l.valid) : l.addr < 2 ^ 32 := by
  cases l with
  | reg r lane =>
    have hrange := (exists_reg_addr_iff _).1 ⟨r, lane, rfl⟩
    omega
  | mem sp off =>
    have hoff : off < Config.spaceSize sp := h
    cases sp <;> simp only [Config.spaceSize] at hoff <;> simp only [Loc.addr, spaceBase] <;> omega

/-- What the address stage of decoding answers: the location, inside its region, whose address it is. -/
theorem decodeAddr_eq_some_iff (addr : BitVec 32) (l : Loc) :
    decodeAddr addr = some l ↔ l.valid ∧ l.addr = addr.toNat := by
  constructor
  · intro h
    have hvalid := valid_of_decodeAddr addr l h
    have haddr : addr = BitVec.ofNat 32 l.addr := by
      cases l with
      | reg r lane => exact decodeAddr_some_reg addr r lane h
      | mem sp off => exact (decodeAddr_some_mem addr sp off h).2
    refine ⟨hvalid, ?_⟩
    rw [haddr, BitVec.toNat_ofNat, Nat.mod_eq_of_lt (loc_addr_lt hvalid)]
  · rintro ⟨hvalid, ha⟩
    have haddr : addr = BitVec.ofNat 32 l.addr := by rw [ha, BitVec.ofNat_toNat, BitVec.setWidth_eq]
    rw [haddr]
    cases l with
    | reg r lane => exact decodeAddr_reg r lane
    | mem sp off => exact decodeAddr_mem sp off hvalid

theorem decodeAddr_eq_mem {addr : BitVec 32} (sp : Space) (hbase : spaceBase sp ≤ addr.toNat)
    (hend : addr.toNat < spaceBase sp + Config.spaceSize sp) :
    decodeAddr addr = some (.mem sp (addr.toNat - spaceBase sp)) :=
  (decodeAddr_eq_some_iff addr _).2
    ⟨show addr.toNat - spaceBase sp < Config.spaceSize sp by omega, Nat.add_sub_cancel' hbase⟩

theorem exists_decodeAddr_eq_reg {addr : BitVec 32} (h : ∃ r lane, (Loc.reg r lane).addr = addr.toNat) :
    ∃ r lane, decodeAddr addr = some (.reg r lane) ∧ (Loc.reg r lane).addr = addr.toNat := by
  obtain ⟨r, lane, ha⟩ := h
  exact ⟨r, lane, (decodeAddr_eq_some_iff addr _).2 ⟨trivial, ha⟩, ha⟩

theorem decodeAddr_eq_none {addr : BitVec 32} (hreg : ¬∃ r lane, (Loc.reg r lane).addr = addr.toNat)
    (hmem : ∀ sp, ¬(spaceBase sp ≤ addr.toNat ∧ addr.toNat < spaceBase sp + Config.spaceSize sp)) :
    decodeAddr addr = none := by
  cases hdec : decodeAddr addr with
  | none => rfl
  | some l =>
    obtain ⟨hvalid, ha⟩ := (decodeAddr_eq_some_iff addr l).1 hdec
    cases l with
    | reg r lane => exact absurd ⟨r, lane, ha⟩ hreg
    | mem sp off =>
      have hoff : off < Config.spaceSize sp := hvalid
      simp only [Loc.addr] at ha
      exact absurd ⟨by omega, by omega⟩ (hmem sp)

/-! ## A bus command to an undecoded address -/

/-- The row of an undecoded address is the generic command, which is refused unless a fault discards it first (R446). -/
theorem exec_row_undecoded {addr : BitVec 32} {s : State} (hdec : decodeAddr addr = none) (hfault : s.fault = none) :
    exec (rd8Row addr) s = .refused (.undecodedAddress addr) ∧
    exec (rd16Row addr) s = .refused (.undecodedAddress addr) ∧
    (∀ v, exec (wr8Row addr v) s = .refused (.undecodedAddress addr)) ∧
    (∀ v, exec (wr16Row addr v) s = .refused (.undecodedAddress addr)) := by
  have hunfaulted := faulted_of_none s hfault
  refine ⟨?rd8, ?rd16, fun v => ?wr8, fun v => ?wr16⟩
  case rd8 => simp [rd8Row, exec, execRd8, hdec, hunfaulted]
  case rd16 => simp [rd16Row, exec, execRd16, hdec, hunfaulted]
  case wr8 => simp [wr8Row, exec, execWr8, hdec, hunfaulted]
  case wr16 => simp [wr16Row, exec, execWr16, hdec, hunfaulted]

/-- Settles O6: an address is decoded exactly when it is the address of a location. -/
theorem addressMap : Obligations.AddressMap := by
  intro addr a
  refine ⟨?pram, ?vram, ?oam, ?registers, ?others⟩
  case pram =>
    rintro ⟨hge, hle⟩
    exact decodeAddr_eq_mem .pram hge (Nat.lt_succ_of_le hle)
  case vram =>
    rintro ⟨hge, hle⟩
    exact decodeAddr_eq_mem .vram hge (Nat.lt_succ_of_le hle)
  case oam =>
    rintro ⟨hge, hle⟩
    exact decodeAddr_eq_mem .oam hge (Nat.lt_succ_of_le hle)
  case registers =>
    intro hrange
    exact exists_decodeAddr_eq_reg ((exists_reg_addr_iff a).2 hrange)
  case others =>
    intro hpram hvram hoam hdisplay htimers
    have hreg : ¬∃ r lane, (Loc.reg r lane).addr = a := fun hex =>
      ((exists_reg_addr_iff a).1 hex).elim hdisplay htimers
    have hmem : ∀ sp, ¬(spaceBase sp ≤ a ∧ a < spaceBase sp + Config.spaceSize sp) := by
      rintro sp ⟨hge, hlt⟩
      cases sp with
      | pram => exact hpram ⟨hge, Nat.le_of_lt_succ hlt⟩
      | vram => exact hvram ⟨hge, Nat.le_of_lt_succ hlt⟩
      | oam => exact hoam ⟨hge, Nat.le_of_lt_succ hlt⟩
    have hdec := decodeAddr_eq_none hreg hmem
    exact ⟨hdec, fun s hfault => exec_row_undecoded hdec hfault⟩

end Sys2Proof.Machine.MemoryProofs
end

section
/-! PROOFS. The phase events (R192 to R196), the V-counter match (R198), the mosaic counters and the affine
accumulators (R200 to R204). -/

namespace Sys2Proof.Machine.PhaseProofs

open Sys2Proof Sys2Proof.Machine Sys2Proof.Machine.Claims

/-! ## A handler's stamps and its arming, in the words of the claims -/

/-- While no fault is recorded an event runs its handler (R176, R441). -/
theorem runEvent_unfaulted (p : Phase) (late : BitVec 32) (s : State) (hf : s.fault = none) :
    runEvent p late s = .next (dispatchEvent p late.toInt s) := by
  rw [runEvent, runOps_cons _ _ _ hf, runOps_nil]

theorem nextPhase_armed (p : Phase) (late : BitVec 32) (s : State) (h : late.toInt ≤ phaseDur p) :
    nextPhase p late.toInt s =
      { s with ppu := ⟨p, s.ppu.vcount⟩, sched := armed s late p (phaseDur p) } :=
  nextPhase_inTime p late.toInt s h

theorem nextPhase_eq_tooLate (p : Phase) (late : Int) (s : State) (h : (phaseDur p : Int) < late)
    (hf : s.fault = none) :
    nextPhase p late s = tooLate s p :=
  nextPhase_tooLate p late s h hf

theorem armed_congr {s t : State} (h : t.sched = s.sched) : armed t = armed s := by
  funext late p dur
  simp only [armed, h]

theorem record_congr {s t : State} (h : t.sched = s.sched) : record t = record s := by
  funext late what
  simp only [record, h]

theorem recordIf_congr {s t : State} (h : t.sched = s.sched) (b : Bool) : recordIf b t = recordIf b s := by
  funext late what
  simp only [recordIf, record_congr h]

/-! ## The V-counter match (R198) -/

theorem evalVCount_eq (fire : Option Word64) (s : State) :
    evalVCount fire s =
      { s with
        dispstat := { s.dispstat with vcountFlag := decide (s.ppu.vcount = s.dispstat.vcountSetting) }
        out := s.out ++
          if s.dispstat.vcountIrqEnable && !s.dispstat.vcountFlag && decide (s.ppu.vcount = s.dispstat.vcountSetting)
          then [⟨.raise .vcount, s.sched.now, fire⟩] else [] } := by
  simp only [evalVCount, raiseIf_eq]

/-- Settles O27: the three clauses are the cases of the match's raise condition. -/
theorem vcountMatchIsEdgeTriggered : Obligations.VcountMatchIsEdgeTriggered := by
  intro s fire
  rw [evalVCount_eq]
  refine ⟨fun hline hflag hen => ?_, fun hline hquiet => ?_, fun hline => ?_⟩
  · simp [hline, hflag, hen]
  · obtain hflag | hen := hquiet
    · simp [hline, hflag]
    · simp [hline, hen]
  · simp [hline]

/-! ## E_SCANLINE (R192) -/

/-- Settles O21: the phase and the event are written first, so a late event stops before the interrupt. -/
theorem scanlineEnd : Obligations.ScanlineEnd := by
  intro s late hf
  have hexec : exec (.eScanline late) s = .next (onScanlineEnd late.toInt s) := runEvent_unfaulted .scanline late s hf
  rw [hexec]
  refine ⟨fun h => ?_, fun h => ?_⟩
  · rw [onScanlineEnd_inTime _ _ h hf, nextPhase_armed _ _ _ h, raiseHblank, raiseIf_eq]
    rfl
  · rw [onScanlineEnd_tooLate _ _ h hf]
    rfl

/-! ## E_HBLANKSEARCH (R193) -/

theorem requestVideoFromLine2_eq (fire : Word64) (s : State) :
    requestVideoFromLine2 fire s =
      { s with
        out := s.out ++
          if decide (2 ≤ s.ppu.vcount.toNat) then [⟨.request .video, s.sched.now, some fire⟩] else [] } := by
  by_cases h : 2 ≤ s.ppu.vcount.toNat <;> simp [requestVideoFromLine2, emit, h]

/-- Settles O22: in time the four actions run in order, too late only the first. -/
theorem hblankSearchEnd : Obligations.HblankSearchEnd := by
  intro s late hf
  have hexec : exec (.eHblanksearch late) s = .next (onHblankSearchEnd late.toInt s) :=
    runEvent_unfaulted .hblankSearch late s hf
  rw [hexec]
  refine ⟨fun h => ?_, fun h => ?_⟩
  · rw [onHblankSearchEnd_inTime _ _ h hf, nextPhase_armed _ _ _ h, requestVideoFromLine2_eq]
    rfl
  · rw [onHblankSearchEnd_tooLate _ _ h hf]
    rfl

/-! ## E_VBLANKSCANLINE (R195) -/

theorem blankingRequests_eq (fire : Word64) (s : State) :
    blankingRequests fire s =
      { s with
        out := s.out ++
          (if decide (s.ppu.vcount.toNat < 162) then [⟨.request .video, s.sched.now, some fire⟩] else []) ++
          if decide (s.ppu.vcount = 162) then [⟨.stopVideoTransfer, s.sched.now, some fire⟩] else [] } := by
  unfold blankingRequests
  by_cases hbelow : s.ppu.vcount.toNat < 162
  · have hne : s.ppu.vcount ≠ 162#8 := fun h => by simp [h] at hbelow
    simp [hbelow, hne, emit]
  · by_cases hline : s.ppu.vcount = 162#8 <;> simp [hbelow, hline, emit]

/-- Settles O24: the request and the stop exclude each other by the line. -/
theorem vblankScanlineEnd : Obligations.VblankScanlineEnd := by
  intro s late hf
  have hexec : exec (.eVblankscanline late) s = .next (onVblankScanlineEnd late.toInt s) :=
    runEvent_unfaulted .vblankScanline late s hf
  rw [hexec]
  refine ⟨fun h => ?_, fun h => ?_⟩
  · rw [onVblankScanlineEnd_inTime _ _ h hf, nextPhase_armed _ _ _ h, raiseHblank, raiseIf_eq, blankingRequests_eq]
    rfl
  · rw [onVblankScanlineEnd_tooLate _ _ h hf]
    rfl

/-! ## E_HBLANK (R194) -/

theorem enterVblank_armed (late : BitVec 32) (s : State) (h : late.toInt ≤ 1006) (hf : s.fault = none) :
    enterVblank late.toInt (s.sched.now - late.signExtend 64) s =
      { s with
        ppu := ⟨.vblankScanline, s.ppu.vcount⟩
        sched := armed s late .vblankScanline 1006
        out := s.out ++ [record s late (.draw s.frame), record s late (.request .vblank)] ++
          recordIf s.dispstat.vblankIrqEnable s late (.raise .vblank)
        dispstat := { s.dispstat with vblankFlag := true }
        mosaic := ⟨⟨s.mosaic.bg.h, s.mosaic.bg.v, 0⟩, ⟨s.mosaic.obj.h, s.mosaic.obj.v, 0⟩⟩ } := by
  rw [enterVblank_inTime _ _ _ h hf, nextPhase_armed _ _ _ h, raiseVblank, raiseIf_eq]
  simp [clearMosaic, setVblankFlag, emit, record, recordIf, armed, phaseDur]

theorem enterVblank_eq_tooLate (late : BitVec 32) (s : State) (h : 1006 < late.toInt) (hf : s.fault = none) :
    enterVblank late.toInt (s.sched.now - late.signExtend 64) s =
      tooLate { s with out := s.out ++ [record s late (.draw s.frame)] } .vblankScanline := by
  rw [enterVblank_tooLate _ _ _ h hf]
  rfl

theorem enterVisibleLine_armed (late : BitVec 32) (s : State) (h : late.toInt ≤ 960) (hf : s.fault = none) :
    enterVisibleLine late.toInt s =
      { advanceMosaic s with ppu := ⟨.scanline, s.ppu.vcount⟩, sched := armed s late .scanline 960 } := by
  rw [enterVisibleLine_inTime _ _ h hf, nextPhase_armed _ _ _ h]
  rfl

/-- The state in which `OnHBlankEnd` takes its branch: flag cleared, line counted, match evaluated (R194). -/
def lineCounted (late : BitVec 32) (s : State) : State :=
  evalVCount (some (s.sched.now - late.signExtend 64))
    { s with
      dispstat := { s.dispstat with hblankFlag := false }
      ppu := ⟨s.ppu.phase, s.ppu.vcount + 1⟩ }

@[simp] theorem lineCounted_sched (late : BitVec 32) (s : State) : (lineCounted late s).sched = s.sched := by
  simp [lineCounted]

@[simp] theorem lineCounted_ppu (late : BitVec 32) (s : State) :
    (lineCounted late s).ppu = ⟨s.ppu.phase, s.ppu.vcount + 1⟩ := by
  simp [lineCounted]

@[simp] theorem lineCounted_fault (late : BitVec 32) (s : State) : (lineCounted late s).fault = s.fault := by
  simp [lineCounted]

@[simp] theorem lineCounted_frame (late : BitVec 32) (s : State) : (lineCounted late s).frame = s.frame := by
  simp [lineCounted]

@[simp] theorem lineCounted_mosaic (late : BitVec 32) (s : State) : (lineCounted late s).mosaic = s.mosaic := by
  simp [lineCounted]

@[simp] theorem lineCounted_vblankIrqEnable (late : BitVec 32) (s : State) :
    (lineCounted late s).dispstat.vblankIrqEnable = s.dispstat.vblankIrqEnable := by
  simp [lineCounted]

theorem onHblankEnd_eq_branch (late : BitVec 32) (s : State) (hf : s.fault = none) :
    onHblankEnd late.toInt s =
      runOps [updateAffine]
        (hblankBranch late.toInt ((lineCounted late s).sched.now - late.signExtend 64) (lineCounted late s)) := by
  rw [onHblankEnd_eq _ _ hf, lineCounted_sched]
  exact runOps_cons _ _ (lineCounted late s) (by simpa using hf)

theorem succ_eq_160_iff (v : BitVec 8) : v + 1 = 160 ↔ v = 159 := by bv_omega

theorem hblankBranch_entersVblank {late : BitVec 32} {fire : Word64} {s : State} (hline : s.ppu.vcount = 159) :
    hblankBranch late.toInt fire (lineCounted late s) = enterVblank late.toInt fire (lineCounted late s) :=
  if_pos (by simp [hline])

theorem hblankBranch_entersVisibleLine {late : BitVec 32} {fire : Word64} {s : State} (hline : s.ppu.vcount ≠ 159) :
    hblankBranch late.toInt fire (lineCounted late s) = enterVisibleLine late.toInt (lineCounted late s) :=
  if_neg (by rwa [lineCounted_ppu, succ_eq_160_iff])

/-- Settles O23: both branches start from `lineCounted`; a branch that faults keeps `updateAffine` from running. -/
theorem hblankEnd : Obligations.HblankEnd := by
  intro s late hf fire s1
  have hstart : s1 = lineCounted late s := rfl
  clear_value s1
  subst hstart
  have hexec : exec (.eHblank late) s = .next (onHblankEnd late.toInt s) := runEvent_unfaulted .hblank late s hf
  have hf1 : (lineCounted late s).fault = none := by simpa using hf
  have hs1 := lineCounted_sched late s
  rw [hexec, onHblankEnd_eq_branch _ _ hf]
  refine ⟨fun hline h => ?_, fun hline h => ?_, fun hline h => ?_, fun hline h => ?_⟩
  · rw [hblankBranch_entersVblank hline, enterVblank_armed _ _ h hf1, runOps_cons _ _ _ (by exact hf1), runOps_nil]
    simp [armed_congr hs1, record_congr hs1, recordIf_congr hs1, hline]
  · rw [hblankBranch_entersVblank hline, enterVblank_eq_tooLate _ _ h hf1, runOps_of_fault _ _ (by simp [tooLate])]
    simp [record_congr hs1]
  · rw [hblankBranch_entersVisibleLine hline, enterVisibleLine_armed _ _ h hf1, runOps_cons _ _ _ (by exact hf1),
      runOps_nil]
    simp [armed_congr hs1]
  · rw [hblankBranch_entersVisibleLine hline, enterVisibleLine_tooLate _ _ h hf1, runOps_of_fault _ _ (by simp)]
    rfl

/-! ## E_VBLANKHBLANK (R196) -/

theorem clearVblankAtLine226_eq (s : State) :
    clearVblankAtLine226 s =
      { s with
        dispstat := { s.dispstat with vblankFlag := s.dispstat.vblankFlag && decide (s.ppu.vcount ≠ 226) } } := by
  by_cases h : s.ppu.vcount = 226#8 <;> simp [clearVblankAtLine226, setVblankFlag, h]

theorem vblankBranch_wraps (late : BitVec 32) (s : State) (hline : s.ppu.vcount = 227) (h : late.toInt ≤ 960)
    (hf : s.fault = none) :
    vblankBranch late.toInt s = { s with ppu := ⟨.scanline, 0⟩, sched := armed s late .scanline 960 } := by
  rw [vblankBranch, if_pos hline, runOps_cons _ _ _ hf, runOps_cons _ _ _ (by simpa using hf), runOps_nil,
    nextPhase_armed _ _ _ h]
  rfl

theorem vblankBranch_wraps_tooLate (late : BitVec 32) (s : State) (hline : s.ppu.vcount = 227) (h : 960 < late.toInt)
    (hf : s.fault = none) :
    vblankBranch late.toInt s = tooLate { s with ppu := ⟨s.ppu.phase, 0⟩ } .scanline := by
  rw [vblankBranch, if_pos hline, runOps_cons _ _ _ hf, runOps_cons _ _ _ (by simpa using hf), runOps_nil,
    nextPhase_eq_tooLate _ _ _ h (by simpa using hf)]
  rfl

theorem vblankBranch_counts (late : BitVec 32) (s : State) (hline : s.ppu.vcount ≠ 227) (h : late.toInt ≤ 1006)
    (hf : s.fault = none) :
    vblankBranch late.toInt s =
      { s with
        dispstat := { s.dispstat with vblankFlag := s.dispstat.vblankFlag && decide (s.ppu.vcount ≠ 226) }
        ppu := ⟨.vblankScanline, s.ppu.vcount + 1⟩
        sched := armed s late .vblankScanline 1006 } := by
  rw [vblankBranch, if_neg hline, runOps_cons _ _ _ hf, nextPhase_armed _ _ _ h, runOps_cons _ _ _ (by exact hf),
    clearVblankAtLine226_eq, runOps_cons _ _ _ (by exact hf), runOps_nil]
  rfl

theorem vblankBranch_counts_tooLate (late : BitVec 32) (s : State) (hline : s.ppu.vcount ≠ 227)
    (h : 1006 < late.toInt) (hf : s.fault = none) :
    vblankBranch late.toInt s = tooLate s .vblankScanline := by
  rw [vblankBranch, if_neg hline, runOps_cons _ _ _ hf, nextPhase_eq_tooLate _ _ _ h hf,
    runOps_of_fault _ _ (by simp [tooLate])]

/-- Settles O25: the line decides the branch; the match is evaluated only where the arming has not faulted. -/
theorem vblankHblankEnd : Obligations.VblankHblankEnd := by
  intro s late hf
  have hexec : exec (.eVblankhblank late) s = .next (onVblankHblankEnd late.toInt s) :=
    runEvent_unfaulted .vblankHblank late s hf
  have hf0 : (setHblankFlag false s).fault = none := hf
  rw [hexec, onVblankHblankEnd_eq _ _ hf, runOps_cons _ _ _ hf0]
  refine ⟨fun hline h => ?_, fun hline h => ?_, fun hline h => ?_, fun hline h => ?_⟩
  · rw [vblankBranch_wraps _ (setHblankFlag false s) hline h hf0, runOps_cons _ _ _ (by exact hf), runOps_nil]
    rfl
  · rw [vblankBranch_wraps_tooLate _ (setHblankFlag false s) hline h hf0, runOps_of_fault _ _ (by simp [tooLate])]
    rfl
  · rw [vblankBranch_counts _ (setHblankFlag false s) hline h hf0, runOps_cons _ _ _ (by exact hf), runOps_nil]
    rfl
  · rw [vblankBranch_counts_tooLate _ (setHblankFlag false s) hline h hf0, runOps_of_fault _ _ (by simp [tooLate])]
    rfl

/-! ## The mosaic counters (R200) -/

/-- The next value of a vertical mosaic counter (R200). -/
def nextCounterY (g : MosaicGroup) : BitVec 4 := if g.sizeY ≤ g.counterY.toNat + 1 then 0 else g.counterY + 1

theorem advance_eq (g : MosaicGroup) : g.advance = ⟨g.h, g.v, nextCounterY g⟩ := by
  unfold MosaicGroup.advance nextCounterY
  split <;> rfl

/-- Below its size, at most 16, the 4-bit counter does not overflow. -/
theorem nextCounterY_toNat (g : MosaicGroup) :
    (nextCounterY g).toNat = if g.counterY.toNat + 1 ≥ g.v.toNat + 1 then 0 else g.counterY.toNat + 1 := by
  unfold nextCounterY MosaicGroup.sizeY
  split
  · rfl
  · bv_omega

/-! ## The affine accumulators (R202, R204) -/

/-- How many times its coefficient an accumulator moves at the end of a line (R202). -/
def lineSteps (mosaicOn : Bool) (g : MosaicGroup) : Int :=
  if mosaicOn then (if g.counterY = 0 then (g.v.toNat : Int) + 1 else 0) else 1

theorem affineLineStep_eq (mosaicOn : Bool) (g : MosaicGroup) (current : BitVec 32) (coef : BitVec 16) :
    affineLineStep mosaicOn g current coef = BitVec.ofInt 32 (current.toInt + lineSteps mosaicOn g * coef.toInt) := by
  have hcoef : coef.signExtend 32 = BitVec.ofInt 32 coef.toInt := rfl
  have hsize : BitVec.ofNat 32 g.sizeY = BitVec.ofInt 32 ((g.v.toNat : Int) + 1) :=
    (BitVec.ofInt_natCast 32 g.sizeY).symm
  unfold affineLineStep lineSteps
  split
  case isTrue =>
    split
    case isTrue => rw [hcoef, hsize, ← BitVec.ofInt_mul, BitVec.ofInt_add, BitVec.ofInt_toInt]
    case isFalse => simp
  case isFalse => rw [hcoef, BitVec.ofInt_add, BitVec.ofInt_toInt, one_mul]

theorem updateAffine_reloads {s : State} (h : s.ppu.vcount = 160) : updateAffine s = reloadAffine s := if_pos h

theorem updateAffine_frame (s : State) :
    updateAffine s = { s with bgx := (updateAffine s).bgx, bgy := (updateAffine s).bgy } := by
  unfold updateAffine
  split <;> rfl

theorem updateAffine_initial (s : State) (i : Ix2) :
    ((updateAffine s).bgx.get i).initial = (s.bgx.get i).initial ∧
    ((updateAffine s).bgy.get i).initial = (s.bgy.get i).initial := by
  unfold updateAffine
  split <;> cases i <;> exact ⟨rfl, rfl⟩

theorem reloadAffine_current (s : State) (i : Ix2) :
    ((reloadAffine s).bgx.get i).current = BitVec.ofInt 32 (s.bgx.get i).initial.toInt ∧
    ((reloadAffine s).bgy.get i).current = BitVec.ofInt 32 (s.bgy.get i).initial.toInt := by
  cases i <;> exact ⟨rfl, rfl⟩

theorem updateAffine_steps {s : State} (h : s.ppu.vcount ≠ 160) (i : Ix2) :
    let mosaicOn := (s.bgcnt.get (affineLayer i)).mosaicEnable
    ((updateAffine s).bgx.get i).current =
      affineLineStep mosaicOn s.mosaic.bg (s.bgx.get i).current (s.bgpb.get i) ∧
    ((updateAffine s).bgy.get i).current =
      affineLineStep mosaicOn s.mosaic.bg (s.bgy.get i).current (s.bgpd.get i) := by
  rw [updateAffine, if_neg h]
  cases i <;> exact ⟨rfl, rfl⟩

/-- Settles O28: each counter and each accumulator by its own equation. -/
theorem mosaicCountersAndAccumulators : Obligations.MosaicCountersAndAccumulators := by
  refine ⟨fun s => ?_, fun s i => ?_⟩
  · refine ⟨nextCounterY s.mosaic.bg, nextCounterY s.mosaic.obj, ?_, nextCounterY_toNat _, nextCounterY_toNat _⟩
    rw [advanceMosaic, advance_eq, advance_eq]
  · obtain ⟨hx, hy⟩ := updateAffine_initial s i
    refine ⟨updateAffine_frame s, hx, hy, fun hline => ?_, fun hline => ?_⟩
    · rw [updateAffine_reloads hline]
      exact reloadAffine_current s i
    · obtain ⟨hstepx, hstepy⟩ := updateAffine_steps hline i
      exact ⟨hstepx.trans (affineLineStep_eq ..), hstepy.trans (affineLineStep_eq ..)⟩

end Sys2Proof.Machine.PhaseProofs
end

section
/-! PROOFS. The bus rows (R230, R231): the registers' reads and writes (R232 to R273), the memory rows (R260). -/

namespace Sys2Proof.Machine.RegisterProofs

open Sys2Proof Sys2Proof.Machine Sys2Proof.Machine.Claims

/-! ## The rows of a register, while no fault is recorded -/

/-- A register both of whose bytes are specified is read without a draw, by byte or by halfword (R230). -/
theorem reads_of_readReg {r : Reg} {s : State} {lo hi : Byte} (hf : s.fault = none)
    (hlo : readReg r .lo s = some lo) (hhi : readReg r .hi s = some hi) : Reads r s lo hi := by
  have hunfaulted := faulted_of_none s hf
  refine ⟨?byte0, ?byte1, ?half⟩
  case byte0 => simp [exec_rd8At, busRead8, hunfaulted, readByteAt, hlo, returnValue, gives]
  case byte1 => simp [exec_rd8At, busRead8, hunfaulted, readByteAt, hhi, returnValue, gives]
  case half => simp [exec_rd16At, busRead16, hunfaulted, Loc.odd, Loc.above, readByteAt, hlo, hhi, returnValue, gives]

theorem exec_wr8At_unfaulted {s : State} (hf : s.fault = none) (r : Reg) (lane : Lane) (v : Byte) :
    exec (wr8At r lane v) s = .next (afterWrite (.reg r lane) (writeReg r lane v s)) := by
  rw [exec_wr8At, busWrite8, faulted_of_none s hf]
  rfl

theorem exec_wr16At_unfaulted {s : State} (hf : s.fault = none) (r : Reg) (v : Half) :
    exec (wr16At r v) s =
      .next (afterWrite (.reg r .lo) (writeReg r .hi (laneOf v .hi) (writeReg r .lo (laneOf v .lo) s))) := by
  rw [exec_wr16At, busWrite16, faulted_of_none s hf]
  rfl

/-- Only a write of DISPSTAT has an after-effect (R237). -/
theorem afterWrite_of_ne_dispstat {r : Reg} (hr : r ≠ .dispstat) (lane : Lane) (s : State) :
    afterWrite (.reg r lane) s = s := by
  cases r with
  | dispstat => exact absurd rfl hr
  | _ => rfl

/-- The byte write of every register but DISPSTAT is its write rule alone (R231). -/
theorem exec_wr8At_eq_writeReg {s : State} (hf : s.fault = none) (r : Reg) (lane : Lane) (v : Byte)
    (hr : r ≠ .dispstat := by nofun) : exec (wr8At r lane v) s = .next (writeReg r lane v s) := by
  rw [exec_wr8At_unfaulted hf, afterWrite_of_ne_dispstat hr]

/-! ## Fields of a register byte

The library's lemmas about `++`, in a form that rewrites where the total width is a literal, as a register's is.
`BitVec.getLsbD_eq_getElem` is kept out of `simp` where it would turn a bit into another spelling first. -/

theorem getLsbD_append_lit {n m : Nat} (x : BitVec n) (y : BitVec m) (i : Nat) :
    BitVec.getLsbD (w := no_index (n + m)) (no_index (x ++ y)) i =
      if i < m then y.getLsbD i else x.getLsbD (i - m) :=
  BitVec.getLsbD_append

theorem extractLsb'_append_lit_low {n m : Nat} (x : BitVec n) (y : BitVec m) {i len : Nat} (h : i + len ≤ m) :
    BitVec.extractLsb' (n := no_index (n + m)) i len (no_index (x ++ y)) = y.extractLsb' i len :=
  BitVec.extractLsb'_append_eq_of_add_le h

theorem extractLsb'_append_lit_high {n m : Nat} (x : BitVec n) (y : BitVec m) {i len : Nat} (h : m ≤ i) :
    BitVec.extractLsb' (n := no_index (n + m)) i len (no_index (x ++ y)) = x.extractLsb' (i - m) len :=
  BitVec.extractLsb'_append_eq_of_le h

theorem readDispcnt_lo_fields (d : Dispcnt) :
    (readDispcnt d .lo).extractLsb' 0 3 = d.mode ∧ (readDispcnt d .lo).getLsbD 3 = d.cgbMode ∧
    (readDispcnt d .lo).getLsbD 4 = d.frame ∧ (readDispcnt d .lo).getLsbD 5 = d.hblankOamAccess ∧
    (readDispcnt d .lo).getLsbD 6 = d.oamMapping1d ∧ (readDispcnt d .lo).getLsbD 7 = d.forcedBlank := by
  simp [-BitVec.getLsbD_eq_getElem, readDispcnt, getLsbD_append_lit, extractLsb'_append_lit_low]

theorem readDispstat_lo_fields (d : Dispstat) :
    (readDispstat d .lo).getLsbD 0 = d.vblankFlag ∧ (readDispstat d .lo).getLsbD 1 = d.hblankFlag ∧
    (readDispstat d .lo).getLsbD 2 = d.vcountFlag ∧ (readDispstat d .lo).getLsbD 3 = d.vblankIrqEnable ∧
    (readDispstat d .lo).getLsbD 4 = d.hblankIrqEnable ∧ (readDispstat d .lo).getLsbD 5 = d.vcountIrqEnable ∧
    (readDispstat d .lo).getLsbD 6 = false ∧ (readDispstat d .lo).getLsbD 7 = false := by
  simp [-BitVec.getLsbD_eq_getElem, readDispstat, getLsbD_append_lit]

theorem readBgcnt_lo_fields (c : Bgcnt) :
    (readBgcnt c .lo).extractLsb' 0 2 = c.priority ∧ (readBgcnt c .lo).extractLsb' 2 2 = c.tileBlock ∧
    (readBgcnt c .lo).extractLsb' 4 2 = 0 ∧ (readBgcnt c .lo).getLsbD 6 = c.mosaicEnable ∧
    (readBgcnt c .lo).getLsbD 7 = c.fullPalette := by
  simp [-BitVec.getLsbD_eq_getElem, readBgcnt, getLsbD_append_lit, extractLsb'_append_lit_low,
    extractLsb'_append_lit_high]

theorem readBgcnt_hi_fields (c : Bgcnt) :
    (readBgcnt c .hi).extractLsb' 0 5 = c.mapBlock ∧ (readBgcnt c .hi).getLsbD 5 = c.wraparound ∧
    (readBgcnt c .hi).extractLsb' 6 2 = c.size := by
  simp [-BitVec.getLsbD_eq_getElem, readBgcnt, getLsbD_append_lit, extractLsb'_append_lit_low,
    extractLsb'_append_lit_high]

theorem readBldcnt_fields (b : Bldcnt) :
    (readBldcnt b .lo).extractLsb' 0 6 = b.targets.e0 ∧ (readBldcnt b .lo).extractLsb' 6 2 = b.sfx ∧
    (readBldcnt b .hi).extractLsb' 0 6 = b.targets.e1 ∧ (readBldcnt b .hi).extractLsb' 6 2 = 0 := by
  simp [readBldcnt, Two.get, extractLsb'_append_lit_low, extractLsb'_append_lit_high]

theorem readTimerControl_lo_fields (t : Timer) :
    (readTimerControl t .lo).extractLsb' 0 2 = t.frequency ∧ (readTimerControl t .lo).getLsbD 2 = t.cascade ∧
    (readTimerControl t .lo).extractLsb' 3 3 = 0 ∧ (readTimerControl t .lo).getLsbD 6 = t.interrupt ∧
    (readTimerControl t .lo).getLsbD 7 = t.enable := by
  simp [-BitVec.getLsbD_eq_getElem, readTimerControl, getLsbD_append_lit, extractLsb'_append_lit_low,
    extractLsb'_append_lit_high]

/-! ## One byte of a wider field (R151) -/

theorem replacesByte_setLane (h : Half) (lane : Lane) (v : Byte) : ReplacesByte h lane.toNat v (setLane h lane v) := by
  intro j hj
  cases lane with
  | lo => simp only [setLane, setLow, getLsbD_append_lit, BitVec.getLsbD_extractLsb', Lane.toNat]; grind
  | hi => simp only [setLane, setHigh, getLsbD_append_lit, BitVec.getLsbD_extractLsb', Lane.toNat]; grind

theorem replacesByte_setScroll (x : BitVec 9) (lane : Lane) (v : Byte) :
    ReplacesByte x lane.toNat v (setScroll x lane v) := by
  intro j hj
  cases lane with
  | lo => simp only [setScroll, getLsbD_append_lit, BitVec.getLsbD_extractLsb', Lane.toNat]; grind
  | hi =>
    simp only [setScroll, getLsbD_append_lit, BitVec.getLsbD_extractLsb', Lane.toNat]
    obtain hlow | rfl : j < 8 ∨ j = 8 := by omega
    · grind
    · simp

theorem replacesByte_setRefLow (r : BitVec 28) (lane : Lane) (v : Byte) :
    ReplacesByte r lane.toNat v (setRefLow r lane v) := by
  intro j hj
  cases lane with
  | lo => simp only [setRefLow, getLsbD_append_lit, BitVec.getLsbD_extractLsb', Lane.toNat]; grind
  | hi => simp only [setRefLow, getLsbD_append_lit, BitVec.getLsbD_extractLsb', Lane.toNat]; grind

theorem replacesByte_setRefHigh (r : BitVec 28) (lane : Lane) (v : Byte) :
    ReplacesByte r (2 + lane.toNat) v (setRefHigh r lane v) := by
  intro j hj
  cases lane with
  | lo => simp only [setRefHigh, getLsbD_append_lit, BitVec.getLsbD_extractLsb', Lane.toNat]; grind
  | hi => simp only [setRefHigh, getLsbD_append_lit, BitVec.getLsbD_extractLsb', Lane.toNat]; grind

/-! ## DISPCNT, DISPSTAT, VCOUNT, BGnCNT -/

/-- The fields that byte 0 of DISPCNT sets (R232). -/
def withDispcntLow (v : Byte) (d : Dispcnt) : Dispcnt :=
  ⟨v.extractLsb' 0 3, v.getLsbD 3, v.getLsbD 4, v.getLsbD 5, v.getLsbD 6, v.getLsbD 7, d.enable⟩

theorem writeDispcntLow_eq (v : Byte) (s : State) :
    writeDispcntLow v s =
      if v.extractLsb' 0 3 ≠ s.dispcnt.mode ∧ (v.extractLsb' 0 3 = 1 ∨ v.extractLsb' 0 3 = 2) then
        reloadAffine { s with dispcnt := withDispcntLow v s.dispcnt }
      else { s with dispcnt := withDispcntLow v s.dispcnt } := by
  simp only [writeDispcntLow, reloadMode, Bool.or_eq_true, decide_eq_true_eq]
  rfl

/-- Settles O29: a write of byte 0 reloads the accumulators exactly where the mode changes to 1 or 2. -/
theorem displayControlReadsAndWrites : Obligations.DisplayControlReadsAndWrites := by
  refine ⟨fun s hf => ?reads, fun s v hf => ⟨?byte0, ?byte1⟩⟩
  case reads =>
    obtain ⟨hmode, hcgb, hframe, hoam, hmap, hblank⟩ := readDispcnt_lo_fields s.dispcnt
    exact ⟨_, _, reads_of_readReg hf rfl rfl, hmode, hcgb, hframe, hoam, hmap, hblank, rfl⟩
  case byte0 =>
    refine (exec_wr8At_eq_writeReg hf .dispcnt .lo v).trans ?_
    simp only [writeReg, writeDispcntLow_eq]
    split <;> rfl
  case byte1 => exact exec_wr8At_eq_writeReg hf .dispcnt .hi v

/-- Settles O30: the match is evaluated in `afterWrite`, once for a byte and once for a halfword. -/
theorem displayStatusReadsAndWrites : Obligations.DisplayStatusReadsAndWrites := by
  intro s hf after
  obtain ⟨hvb, hhb, hvc, hvbEn, hhbEn, hvcEn, h6, h7⟩ := readDispstat_lo_fields s.dispstat
  refine ⟨⟨_, _, reads_of_readReg hf rfl rfl, hvb, hhb, hvc, hvbEn, hhbEn, hvcEn, h6, h7, rfl⟩, fun v => ?byte0,
    fun v => ?byte1, fun v => ?half⟩
  case byte0 => exact exec_wr8At_unfaulted hf .dispstat .lo v
  case byte1 => exact exec_wr8At_unfaulted hf .dispstat .hi v
  case half =>
    refine (exec_wr16At_unfaulted hf .dispstat v).trans ?_
    simp [-BitVec.getLsbD_eq_getElem, writeReg, writeDispstatLow, writeDispstatHigh, laneOf, afterWrite, after]

/-- Settles O31: the write rule of VCOUNT is the identity. -/
theorem lineCounterReadsAndIgnoresWrites : Obligations.LineCounterReadsAndIgnoresWrites := fun _ hf =>
  ⟨reads_of_readReg hf rfl rfl, fun v => exec_wr8At_unfaulted hf .vcount .lo v,
    fun v => exec_wr8At_unfaulted hf .vcount .hi v, fun v => exec_wr16At_unfaulted hf .vcount v⟩

/-- Settles O32: the layer is a parameter of the register's row, so one argument serves all four. -/
theorem backgroundControlReadsAndWrites : Obligations.BackgroundControlReadsAndWrites := by
  intro s n hf c
  obtain ⟨hprio, htile, hzero, hmosaic, hpal⟩ := readBgcnt_lo_fields c
  obtain ⟨hmap, hwrap, hsize⟩ := readBgcnt_hi_fields c
  exact ⟨⟨_, _, reads_of_readReg hf rfl rfl, hprio, htile, hzero, hmosaic, hpal, hmap, hwrap, hsize⟩,
    exec_wr8At_eq_writeReg hf (.bgcnt n) .lo, exec_wr8At_eq_writeReg hf (.bgcnt n) .hi⟩

/-! ## Scroll offsets, coefficients, reference points -/

/-- Settles O33: each write rule replaces one byte of its field. -/
theorem scrollAndCoefficientWrites : Obligations.ScrollAndCoefficientWrites := by
  refine ⟨fun s n lane v hf => ⟨?hofs, ?vofs⟩, fun s i lane v hf => ⟨?pa, ?pb, ?pc, ?pd⟩⟩
  case hofs => exact ⟨_, exec_wr8At_eq_writeReg hf (.bghofs n) lane v, replacesByte_setScroll _ lane v⟩
  case vofs => exact ⟨_, exec_wr8At_eq_writeReg hf (.bgvofs n) lane v, replacesByte_setScroll _ lane v⟩
  case pa => exact ⟨_, exec_wr8At_eq_writeReg hf (.bgpa i) lane v, replacesByte_setLane _ lane v⟩
  case pb => exact ⟨_, exec_wr8At_eq_writeReg hf (.bgpb i) lane v, replacesByte_setLane _ lane v⟩
  case pc => exact ⟨_, exec_wr8At_eq_writeReg hf (.bgpc i) lane v, replacesByte_setLane _ lane v⟩
  case pd => exact ⟨_, exec_wr8At_eq_writeReg hf (.bgpd i) lane v, replacesByte_setLane _ lane v⟩

/-- Settles O34: `setInitial` leaves the accumulator. -/
theorem referencePointWrites : Obligations.ReferencePointWrites := by
  refine fun s i lane v hf => ⟨?xLow, ?xHigh, ?yLow, ?yHigh⟩
  case xLow => exact ⟨_, exec_wr8At_eq_writeReg hf (.bgxLow i) lane v, replacesByte_setRefLow _ lane v⟩
  case xHigh => exact ⟨_, exec_wr8At_eq_writeReg hf (.bgxHigh i) lane v, replacesByte_setRefHigh _ lane v⟩
  case yLow => exact ⟨_, exec_wr8At_eq_writeReg hf (.bgyLow i) lane v, replacesByte_setRefLow _ lane v⟩
  case yHigh => exact ⟨_, exec_wr8At_eq_writeReg hf (.bgyHigh i) lane v, replacesByte_setRefHigh _ lane v⟩

/-! ## Windows, mosaic, blending -/

/-- Settles O35: byte 0 of a window range is its upper end. -/
theorem windowRangeAndMosaicWrites : Obligations.WindowRangeAndMosaicWrites :=
  ⟨fun _ w v hf =>
    ⟨exec_wr8At_eq_writeReg hf (.winh w) .lo v, exec_wr8At_eq_writeReg hf (.winh w) .hi v,
      exec_wr8At_eq_writeReg hf (.winv w) .lo v, exec_wr8At_eq_writeReg hf (.winv w) .hi v⟩,
    fun _ v hf =>
    ⟨exec_wr8At_eq_writeReg hf .mosaic .lo v, exec_wr8At_eq_writeReg hf .mosaic .hi v⟩⟩

/-- A mask read back is widened with zeros (R246). -/
theorem readMaskPair_eq (m : Two (BitVec 6)) :
    readMaskPair m .lo = m.e0.setWidth 8 ∧ readMaskPair m .hi = m.e1.setWidth 8 :=
  ⟨(BitVec.setWidth_eq_append (by decide)).symm, (BitVec.setWidth_eq_append (by decide)).symm⟩

/-- A mask written is the byte cut to six bits (R246). -/
theorem setMaskPair_eq (m : Two (BitVec 6)) (v : Byte) :
    setMaskPair m .lo v = ⟨v.setWidth 6, m.e1⟩ ∧ setMaskPair m .hi v = ⟨m.e0, v.setWidth 6⟩ := by
  rw [BitVec.setWidth_eq_extractLsb' (by decide)]
  exact ⟨rfl, rfl⟩

/-- Settles O36: masks and bytes differ by two zero bits only. -/
theorem windowMaskReadsAndWrites : Obligations.WindowMaskReadsAndWrites := by
  intro s v hf
  obtain ⟨hin0, hin1⟩ := readMaskPair_eq s.winin
  obtain ⟨hout0, hout1⟩ := readMaskPair_eq s.winout
  obtain ⟨hsetIn0, hsetIn1⟩ := setMaskPair_eq s.winin v
  obtain ⟨hsetOut0, hsetOut1⟩ := setMaskPair_eq s.winout v
  rw [← hsetIn0, ← hsetIn1, ← hsetOut0, ← hsetOut1]
  exact ⟨⟨_, _, reads_of_readReg hf rfl rfl, hin0, hin1⟩, ⟨_, _, reads_of_readReg hf rfl rfl, hout0, hout1⟩,
    exec_wr8At_eq_writeReg hf .winin .lo v, exec_wr8At_eq_writeReg hf .winin .hi v,
    exec_wr8At_eq_writeReg hf .winout .lo v, exec_wr8At_eq_writeReg hf .winout .hi v⟩

/-- The factors are read back as stored, widened with zeros (R249). -/
theorem readBldalpha_eq (s : State) :
    readBldalpha s .lo = s.eva.setWidth 8 ∧ readBldalpha s .hi = s.evb.setWidth 8 :=
  ⟨(BitVec.setWidth_eq_append (by decide)).symm, (BitVec.setWidth_eq_append (by decide)).symm⟩

/-- Settles O37: the factors are five bits wide, so a write cuts and a read widens. -/
theorem blendRegisterReadsAndWrites : Obligations.BlendRegisterReadsAndWrites := by
  refine ⟨fun s v hf => ?bldcnt, fun s v hf => ?factors⟩
  case bldcnt =>
    obtain ⟨hfirst, hsfx, hsecond, hzero⟩ := readBldcnt_fields s.bldcnt
    exact ⟨⟨_, _, reads_of_readReg hf rfl rfl, hfirst, hsfx, hsecond, hzero⟩,
      exec_wr8At_eq_writeReg hf .bldcnt .lo v, exec_wr8At_eq_writeReg hf .bldcnt .hi v⟩
  case factors =>
    obtain ⟨heva, hevb⟩ := readBldalpha_eq s
    rw [← heva, ← hevb, BitVec.setWidth_eq_extractLsb' (by decide : 5 ≤ 8)]
    exact ⟨reads_of_readReg hf rfl rfl,
      exec_wr8At_eq_writeReg hf .bldalpha .lo v, exec_wr8At_eq_writeReg hf .bldalpha .hi v,
      exec_wr8At_eq_writeReg hf .bldy .lo v, exec_wr8At_eq_writeReg hf .bldy .hi v⟩

/-! ## Timers -/

theorem laneOf_hi_append_lo (h : Half) : laneOf h .hi ++ laneOf h .lo = h :=
  (BitVec.extractLsb'_append_extractLsb'_eq_extractLsb' rfl).trans BitVec.extractLsb'_eq_self

/-- Settles O39: reads show `counter`, writes reach `reload`. -/
theorem timerCountReadsAndReloadWrites : Obligations.TimerCountReadsAndReloadWrites := fun _ n hf =>
  ⟨⟨_, _, reads_of_readReg hf rfl rfl, laneOf_hi_append_lo _⟩, fun lane v =>
    ⟨_, exec_wr8At_eq_writeReg hf (.tmcntL n) lane v, replacesByte_setLane _ lane v⟩⟩

/-- The control byte's effect on the counter and on the sub-tick count, where it starts the timer (R272). -/
theorem timer_control_eq (t : Timer) (v : Byte) (clears : Bool) :
    t.control v clears =
      { t with
        frequency := v.extractLsb' 0 2
        cascade := v.getLsbD 2
        interrupt := v.getLsbD 6
        enable := v.getLsbD 7
        counter := if t.enable = false ∧ v.getLsbD 7 = true then t.reload else t.counter
        cycles := if (t.enable = false ∧ v.getLsbD 7 = true) ∧ clears = true then 0 else t.cycles } := by
  unfold Timer.control
  by_cases hstarts : t.enable = false ∧ v.getLsbD 7 = true
  · simp [-BitVec.getLsbD_eq_getElem, hstarts]
  · have : (!t.enable && v.getLsbD 7) = false := by simpa [-BitVec.getLsbD_eq_getElem] using hstarts
    simp [-BitVec.getLsbD_eq_getElem, hstarts, this]

/-- Settles O40: `timer_control_eq` for the control byte; the upper byte's write rule is the identity. -/
theorem timerControlReadsAndWrites : Obligations.TimerControlReadsAndWrites := by
  intro s n v hf t starts
  obtain ⟨hfreq, hcascade, hzero, hirq, hen⟩ := readTimerControl_lo_fields t
  refine ⟨⟨_, reads_of_readReg hf rfl rfl, hfreq, hcascade, hzero, hirq, hen⟩, ?control, ?upper⟩
  case control =>
    rw [exec_wr8At_eq_writeReg hf (.tmcntH n), writeReg, writeTimerControl, timer_control_eq]
    rfl
  case upper => exact exec_wr8At_eq_writeReg hf (.tmcntH n) .hi v

/-! ## The memory rows (R260) -/

theorem readByteAt_mem {sp : Space} {off : Nat} (h : off < Config.spaceSize sp) (s : State) :
    readByteAt (.mem sp off) s = ((s.mem sp).read off, s) := by
  simp only [readByteAt, memRead8_of_lt s sp off h]

theorem writeByteAt_mem {sp : Space} {off : Nat} (h : off < Config.spaceSize sp) (v : Byte) (s : State) :
    writeByteAt (.mem sp off) v s = s.setMem sp ((s.mem sp).write off v) :=
  memWrite8_of_lt sp off v s h

theorem exec_rd8Mem_unfaulted {s : State} (hf : s.fault = none) {sp : Space} {off : Nat}
    (h : off < Config.spaceSize sp) :
    exec (rd8Mem sp off) s = .next (gives s (.byte ((s.mem sp).read off))) := by
  rw [exec_rd8Mem sp off s h, busRead8, faulted_of_none s hf, readByteAt_mem h]
  rfl

theorem exec_wr8Mem_unfaulted {s : State} (hf : s.fault = none) {sp : Space} {off : Nat}
    (h : off < Config.spaceSize sp) (v : Byte) :
    exec (wr8Mem sp off v) s = .next (s.setMem sp ((s.mem sp).write off v)) := by
  rw [exec_wr8Mem sp off v s h, busWrite8, faulted_of_none s hf, writeByteAt_mem h]
  rfl

theorem exec_rd16Mem_unfaulted {s : State} (hf : s.fault = none) {sp : Space} {off : Nat}
    (h : off < Config.spaceSize sp) (heven : off % 2 = 0) :
    exec (rd16Mem sp off) s = .next (gives s (.half ((s.mem sp).read (off + 1) ++ (s.mem sp).read off))) := by
  have hodd : (Loc.mem sp off).odd = false := by simp [Loc.odd, heven]
  have habove : off + 1 < Config.spaceSize sp := above_valid (.mem sp off) h hodd
  rw [exec_rd16Mem sp off s h]
  simp [busRead16, faulted_of_none s hf, hodd, Loc.above, readByteAt_mem h, readByteAt_mem habove, returnValue, gives]

theorem exec_wr16Mem_unfaulted {s : State} (hf : s.fault = none) {sp : Space} {off : Nat}
    (h : off < Config.spaceSize sp) (heven : off % 2 = 0) (v : Half) :
    exec (wr16Mem sp off v) s =
      .next (s.setMem sp (((s.mem sp).write off (laneOf v .lo)).write (off + 1) (laneOf v .hi))) := by
  have hodd : (Loc.mem sp off).odd = false := by simp [Loc.odd, heven]
  have habove : off + 1 < Config.spaceSize sp := above_valid (.mem sp off) h hodd
  rw [exec_wr16Mem sp off v s h, busWrite16, faulted_of_none s hf, hodd, Loc.above, writeByteAt_mem h,
    writeByteAt_mem habove, setMem_mem_self, setMem_setMem]
  rfl

/-- A region in canonical form reads the byte just written there and every other byte as before (R85). -/
theorem read_write {m : Memory} (hwf : m.wf = true) (off : Nat) (v : Byte) (a : Nat) :
    (m.write off v).read a = if a = off then v else m.read a := by
  split
  case isTrue h => rw [h, read_write_self m off v hwf]
  case isFalse h => exact read_write_other m off a v h

/-- Settles O42: a halfword write is two byte writes at different offsets. -/
theorem memoryReadsAndWrites : Obligations.MemoryReadsAndWrites := by
  intro s sp off hf hoff hwf
  refine ⟨exec_rd8Mem_unfaulted hf hoff, fun v => ⟨_, exec_wr8Mem_unfaulted hf hoff v, read_write hwf off v⟩,
    fun heven => ⟨exec_rd16Mem_unfaulted hf hoff heven, fun v => ⟨_, exec_wr16Mem_unfaulted hf hoff heven v, ?_⟩⟩⟩
  intro a
  rw [read_write (wf_write _ _ _ hwf), read_write hwf]
  by_cases hlow : a = off
  · simp [hlow, laneOf]
  · simp [hlow, laneOf]

end Sys2Proof.Machine.RegisterProofs
end

section
/-! PROOFS. The background layers (R300 to R322): text layers under mosaic, affine layers, and which layer a display mode
shows, with the bitmap modes. -/

namespace Sys2Proof.Machine.BackgroundProofs

open Sys2Proof Sys2Proof.Machine Sys2Proof.Machine.Claims

/-! ## The pixel of a text layer (R305) -/

/-- The entry of the map at a text-layer position (R305, R156). -/
def mapEntry (s : State) (c : Bgcnt) (px py : Nat) : Half :=
  bgHalf s (c.mapBase + 0x800 * screenBlock c.size px py + 64 * (py % 256 / 8) + 2 * (px % 256 / 8))

/-- The tile an entry names. -/
def entryTile (e : Half) : Nat := (e.extractLsb' 0 10).toNat

/-- The column inside its tile, flipped where the entry says so. -/
def tileColumn (e : Half) (px : Nat) : Nat := if e.getLsbD 10 then 7 - px % 8 else px % 8

/-- The row inside its tile, flipped where the entry says so. -/
def tileRow (e : Half) (py : Nat) : Nat := if e.getLsbD 11 then 7 - py % 8 else py % 8

theorem textPixel_nibble {c : Bgcnt} (h : c.fullPalette = false) (s : State) (px py : Nat) :
    let e := mapEntry s c px py
    let k := tileColumn e px
    let idx := pixelNibble (bgByte s (c.tileBase + 32 * entryTile e + 4 * tileRow e py + k / 2)) k
    textPixel s c px py = some (indexed s idx (2 * (16 * (e.extractLsb' 12 4).toNat + idx))) := by
  intro e k idx
  have hcolour : 16 * (e.extractLsb' 12 4).toNat + idx < 256 := by
    have hidx : idx < 16 := pixelNibble_lt _ _
    omega
  rw [← bgIndexed_eq s idx _ hcolour, textPixel, bgFetch16_eq]
  simp only [Option.bind_eq_bind, Option.bind_some, h, bgFetch8_eq, nibble_eq]
  rfl

theorem textPixel_byte {c : Bgcnt} (h : c.fullPalette = true) (s : State) (px py : Nat) :
    let e := mapEntry s c px py
    let idx := (bgByte s (c.tileBase + 64 * entryTile e + 8 * tileRow e py + tileColumn e px)).toNat
    textPixel s c px py = some (indexed s idx (2 * idx)) := by
  intro e idx
  rw [← bgIndexed_eq s idx idx (BitVec.isLt _), textPixel, bgFetch16_eq]
  simp only [Option.bind_eq_bind, Option.bind_some, h, bgFetch8_eq]
  rfl

/-- Mosaic moves the position a text layer samples; the pixel at a position does not depend on it (R305, R308). -/
theorem textPixel_without_mosaic (s : State) (bgcnt : Four Bgcnt) (c : Bgcnt) (px py : Nat) :
    textPixel { s with bgcnt := bgcnt } { c with mosaicEnable := false } px py = textPixel s c px py := rfl

/-! ## Text layers under mosaic (R304, R308) -/

theorem textSlot_block_corner (s : State) (n : Ix4) (y x : Nat)
    (hmosaic : (s.bgcnt.get n).mosaicEnable = true) (hline : s.mosaic.bg.counterY.toNat ≤ y) :
    textSlot s y n x =
      textSlot { s with bgcnt := s.bgcnt.set n { s.bgcnt.get n with mosaicEnable := false } }
        (y - s.mosaic.bg.counterY.toNat) n (x - x % (s.mosaic.bg.h.toNat + 1)) := by
  have hsigned : mosaicLine true s.mosaic.bg.counterY y =
      mosaicLine false s.mosaic.bg.counterY (y - s.mosaic.bg.counterY.toNat) := (Int.ofNat_sub hline).symm
  simp only [textSlot, four_get_set, if_true, hmosaic, hsigned, textPixel_without_mosaic]
  rfl

/-- Settles O53: a text layer shows `textPixel` at its position, and mosaic acts on the position only. -/
theorem textLayersShowTheirTilesUnderMosaic : Obligations.TextLayersShowTheirTilesUnderMosaic := by
  refine ⟨?_, textSlot_block_corner⟩
  intro s n y x c w h line py px block e tile bank k r idx4 idx8
  have hentry : mapEntry s c px py = e := by rw [mapEntry, screenBlock_eq]; rfl
  have hpixel : textSlot s y n x = textPixel s c px py := by
    have hheight : (textHeight c.size : Int) = h := by
      rw [textHeight, Nat.cast_ite]
      rfl
    rw [textSlot, hheight]
    rfl
  refine ⟨fun hpal => ?_, fun hpal => ?_⟩
  · rw [hpixel, textPixel_nibble hpal, hentry]; rfl
  · rw [hpixel, textPixel_byte hpal, hentry]; rfl

/-! ## Affine layers (R312) -/

theorem affineCoord_eq (current : BitVec 32) (step : BitVec 16) (xs : Nat) :
    affineCoord current step xs = (BitVec.ofInt 32 (current.toInt + xs * step.toInt)).toInt / 256 := by
  have hstep : step.signExtend 32 = BitVec.ofInt 32 step.toInt := rfl
  rw [affineCoord, hstep, ← BitVec.ofInt_natCast, ← BitVec.ofInt_mul, BitVec.ofInt_add, BitVec.ofInt_toInt]

theorem affineTexel_eq (s : State) (c : Bgcnt) (tx ty : Nat) :
    let tile := (bgByte s (c.mapBase + ty / 8 * (affineSide c.size / 8) + tx / 8)).toNat
    let idx := (bgByte s (c.tileBase + 64 * tile + 8 * (ty % 8) + tx % 8)).toNat
    affineTexel s c tx ty = some (indexed s idx (2 * idx)) := by
  intro tile idx
  rw [← bgIndexed_eq s idx idx (BitVec.isLt _), affineTexel, bgFetch8_eq, Option.bind_eq_bind, Option.bind_some,
    bgFetch8_eq, Option.bind_some]

/-- Settles O54: the three clauses are the branches of `affineSlot`. -/
theorem affineLayersClipOrWrap : Obligations.AffineLayersClipOrWrap := by
  refine ⟨?_, affineTexel_eq⟩
  intro s i x c side xs texel tx ty
  have hslot : affineSlot s i x =
      if c.wraparound then affineTexel s c (tx % side).toNat (ty % side).toNat
      else if tx < 0 ∨ side ≤ tx ∨ ty < 0 ∨ side ≤ ty then some none
      else affineTexel s c tx.toNat ty.toNat := by
    simp only [affineSlot, affineCoord_eq]
    rfl
  rw [hslot]
  refine ⟨fun hclip hout => ?_, fun hclip hx0 hx hy0 hy => ?_, fun hwrap => if_pos hwrap⟩
  · rw [hclip, if_neg Bool.false_ne_true, if_pos hout]
  · rw [hclip, if_neg Bool.false_ne_true, if_neg (by omega)]

/-! ## The bitmap modes (R320 to R322) -/

/-- A pixel that is the low 15 bits of a halfword of the video memory (R160). -/
def directPixel (s : State) (off : Nat) : Slot := some ((s.vram.read (off + 1) ++ s.vram.read off).extractLsb' 0 15)

theorem bitmapBase_le (s : State) : bitmapBase s ≤ 0xA000 := by
  unfold bitmapBase
  split <;> decide

theorem bitmap3Slot_eq (s : State) {y x : Nat} (hy : y < 160) (hx : x < 240) :
    bitmap3Slot s y x = some (directPixel s (2 * (240 * y + x))) := by
  rw [bitmap3Slot, memRead16_of_lt _ _ _ (by simp only [Config.spaceSize]; omega)]
  rfl

theorem bitmap4Slot_eq (s : State) {y x : Nat} (hy : y < 160) (hx : x < 240) :
    let idx := (s.vram.read (bitmapBase s + 240 * y + x)).toNat
    bitmap4Slot s y x = some (indexed s idx (2 * idx)) := by
  intro idx
  have hbase := bitmapBase_le s
  rw [← bgIndexed_eq s idx idx (BitVec.isLt _), bitmap4Slot,
    memRead8_of_lt _ _ _ (by simp only [Config.spaceSize]; omega)]
  rfl

theorem bitmap5Slot_inside (s : State) {y x : Nat} (hx : x < 160) (hy : y < 128) :
    bitmap5Slot s y x = some (directPixel s (bitmapBase s + 2 * (160 * y + x))) := by
  have hbase := bitmapBase_le s
  rw [bitmap5Slot, if_pos ⟨hx, hy⟩, memRead16_of_lt _ _ _ (by simp only [Config.spaceSize]; omega)]
  rfl

theorem bitmap5Slot_outside (s : State) {y x : Nat} (h : 160 ≤ x ∨ 128 ≤ y) : bitmap5Slot s y x = some none :=
  if_neg (by omega)

/-! ## What an active layer shows (R301) -/

section Modes
variable {s : State} {y : Nat} {n : Ix4} {x : Nat}

theorem activeSlot_mode0 (h : s.dispcnt.mode = 0) : activeSlot s y n x = textSlot s y n x := by
  unfold activeSlot
  rw [h]
  rfl

theorem activeSlot_mode1_text (h : s.dispcnt.mode = 1) (hn : n = .n0 ∨ n = .n1) :
    activeSlot s y n x = textSlot s y n x := by
  unfold activeSlot
  rw [h]
  obtain rfl | rfl := hn <;> rfl

theorem activeSlot_affine_bg2 (h : s.dispcnt.mode = 1 ∨ s.dispcnt.mode = 2) (hn : n = .n2) :
    activeSlot s y n x = affineSlot s .n0 x := by
  unfold activeSlot
  rw [hn]
  obtain h | h := h <;> rw [h] <;> rfl

theorem activeSlot_affine_bg3 (h : s.dispcnt.mode = 2) (hn : n = .n3) :
    activeSlot s y n x = affineSlot s .n1 x := by
  unfold activeSlot
  rw [h, hn]
  rfl

theorem activeSlot_mode1_unused (h : s.dispcnt.mode = 1) (hn : n = .n3) : activeSlot s y n x = some none := by
  unfold activeSlot
  rw [h, hn]
  rfl

theorem activeSlot_mode2_unused (h : s.dispcnt.mode = 2) (hn : n = .n0 ∨ n = .n1) :
    activeSlot s y n x = some none := by
  unfold activeSlot
  rw [h]
  obtain rfl | rfl := hn <;> rfl

theorem activeSlot_bitmap_unused (h : s.dispcnt.mode = 3 ∨ s.dispcnt.mode = 4 ∨ s.dispcnt.mode = 5) (hn : n ≠ .n2) :
    activeSlot s y n x = some none := by
  unfold activeSlot
  cases n with
  | n2 => exact absurd rfl hn
  | n0 | n1 | n3 => obtain h | h | h := h <;> rw [h] <;> rfl

theorem activeSlot_mode3 (h : s.dispcnt.mode = 3) : activeSlot s y .n2 x = bitmap3Slot s y x := by
  unfold activeSlot
  rw [h]
  rfl

theorem activeSlot_mode4 (h : s.dispcnt.mode = 4) : activeSlot s y .n2 x = bitmap4Slot s y x := by
  unfold activeSlot
  rw [h]
  rfl

theorem activeSlot_mode5 (h : s.dispcnt.mode = 5) : activeSlot s y .n2 x = bitmap5Slot s y x := by
  unfold activeSlot
  rw [h]
  rfl

/-! ## Enabled and disabled layers (R300) -/

theorem bgSlot_of_disabled (h : s.dispcnt.enable.getLsbD n.toNat = false) : bgSlot s y n x = some none :=
  if_neg (ne_true_of_eq_false h)

theorem bgSlot_of_enabled (h : s.dispcnt.enable.getLsbD n.toNat = true) :
    bgSlot s y n x = activeSlot s y n x := if_pos h

theorem bgSlot_of_unused (h : activeSlot s y n x = some none) : bgSlot s y n x = some none := by
  rw [bgSlot, h, ite_self]

end Modes

/-- Settles O52: an enabled layer shows `activeSlot`, which the mode decides. -/
theorem layersByModeAndBitmapPixels : Obligations.LayersByModeAndBitmapPixels := by
  refine ⟨fun s y x n => ?layers, fun s y x hy hx hen => ?bitmaps⟩
  case layers =>
    refine ⟨bgSlot_of_disabled, fun h hn => bgSlot_of_unused (activeSlot_mode1_unused h hn),
      fun h hn => bgSlot_of_unused (activeSlot_mode2_unused h hn),
      fun h hn => bgSlot_of_unused (activeSlot_bitmap_unused h hn), fun hen => ?_⟩
    rw [bgSlot_of_enabled hen]
    exact ⟨activeSlot_mode0, activeSlot_mode1_text, activeSlot_affine_bg2, activeSlot_affine_bg3⟩
  case bitmaps =>
    intro base direct idx
    have hpixel4 (h : s.dispcnt.mode = 4) : activeSlot s y .n2 x = some (indexed s idx (2 * idx)) :=
      (activeSlot_mode4 h).trans (bitmap4Slot_eq s hy hx)
    rw [bgSlot_of_enabled hen]
    exact ⟨fun h => (activeSlot_mode3 h).trans (bitmap3Slot_eq s hy hx),
      fun h hidx => (hpixel4 h).trans (congrArg some (if_pos hidx)),
      fun h hidx => (hpixel4 h).trans (congrArg some (if_neg hidx)),
      fun h hx' hy' => (activeSlot_mode5 h).trans (bitmap5Slot_inside s hx' hy'),
      fun h hout => (activeSlot_mode5 h).trans (bitmap5Slot_outside s hout)⟩

end Sys2Proof.Machine.BackgroundProofs
end

section
/-! PROOFS. The windows (R360 to R362): the geometry of a range and the control bits in force. -/

namespace Sys2Proof.Machine.WindowProofs

open Sys2Proof Sys2Proof.Machine Sys2Proof.Machine.Claims

theorem winRange_holds_iff (r : WinRange) (v : Nat) : r.holds v = true ↔
    (r.min.toNat ≤ r.max.toNat ∧ r.min.toNat ≤ v ∧ v < r.max.toNat) ∨
    (r.max.toNat < r.min.toNat ∧ (r.min.toNat ≤ v ∨ v < r.max.toNat)) := by
  unfold WinRange.holds
  split
  case isTrue hordered => simp [hordered, Nat.not_lt.2 hordered]
  case isFalse hcrossed => simp [hcrossed, Nat.lt_of_not_le hcrossed]

theorem winMask_iff (s : State) (w : Ix2) (y x : Nat) : winMask s w y x = true ↔
    s.dispcnt.enable.getLsbD (5 + w.toNat) = true ∧ (s.winv.get w).holds y = true ∧
      (s.winh.get w).holds x = true := by
  simp only [winMask, Bool.and_eq_true, and_assoc]

theorem winCtl_of_none_enabled {s : State} (h0 : ¬ s.dispcnt.enable.getLsbD 5 = true)
    (h1 : ¬ s.dispcnt.enable.getLsbD 6 = true) (hobj : ¬ s.dispcnt.enable.getLsbD 7 = true) (y x : Nat) (d : ObjSlot) :
    winCtl s y x d = 0x3F :=
  if_pos (by rw [eq_false_of_ne_true h0, eq_false_of_ne_true h1, eq_false_of_ne_true hobj]; rfl)

/-- With a window enabled the masks are asked in the order of their precedence (R362). -/
theorem winCtl_of_enabled {s : State}
    (h : s.dispcnt.enable.getLsbD 5 = true ∨ s.dispcnt.enable.getLsbD 6 = true ∨ s.dispcnt.enable.getLsbD 7 = true)
    (y x : Nat) (d : ObjSlot) :
    winCtl s y x d =
      if winMask s .n0 y x then s.winin.e0
      else if winMask s .n1 y x then s.winin.e1
      else if s.dispcnt.enable.getLsbD 7 && d.window then s.winout.e1
      else s.winout.e0 :=
  if_neg (by obtain h | h | h := h <;> simp [h])

/-- Settles O56: the clauses are the branches of `winCtl`, in its order. -/
theorem windowsSelectTheControlBits : Obligations.WindowsSelectTheControlBits := by
  refine ⟨winRange_holds_iff, fun s y x d => ?_⟩
  intro on inside
  have hmask (w : Ix2) : winMask s w y x = true ↔ inside w := winMask_iff s w y x
  refine ⟨fun h0 h1 hobj => winCtl_of_none_enabled h0 h1 hobj y x d, fun hin => ?window0, fun hout hin => ?window1,
    fun hout0 hout1 hon hobj => ?object, fun hout0 hout1 hon hobj => ?outside⟩
  case window0 =>
    rw [winCtl_of_enabled (.inl hin.1), if_pos ((hmask .n0).2 hin)]
  case window1 =>
    rw [winCtl_of_enabled (.inr (.inl hin.1)), if_neg (mt (hmask .n0).1 hout), if_pos ((hmask .n1).2 hin)]
  case object =>
    have hlast : (s.dispcnt.enable.getLsbD 7 && d.window) = true := Bool.and_eq_true_iff.2 ⟨hon, hobj⟩
    rw [winCtl_of_enabled (.inr (.inr hon)), if_neg (mt (hmask .n0).1 hout0), if_neg (mt (hmask .n1).1 hout1),
      if_pos hlast]
  case outside =>
    have hlast : ¬ (s.dispcnt.enable.getLsbD 7 && d.window) = true := by
      rw [Bool.and_eq_true]
      rintro ⟨hon7, hwin⟩
      obtain hoff | hnone := hobj
      · exact hoff hon7
      · exact Bool.false_ne_true (hnone.symm.trans hwin)
    rw [winCtl_of_enabled hon, if_neg (mt (hmask .n0).1 hout0), if_neg (mt (hmask .n1).1 hout1), if_neg hlast]

end Sys2Proof.Machine.WindowProofs
end

section
/-! PROOFS. The pixels of an object (R344 to R353): its attributes and size, the place of a screen pixel in its box and in
its texture, and the colour of a texel. -/

namespace Sys2Proof.Machine.ObjectProofs

open Sys2Proof Sys2Proof.Machine Sys2Proof.Machine.Claims

/-! ## Attributes and size (R161, R162) -/

/-- A halfword of the object memory, as two plain reads. -/
def oamHalf (s : State) (off : Nat) : Half := s.oam.read (off + 1) ++ s.oam.read off

theorem memRead16_oam (s : State) {off : Nat} (h : off + 1 < 0x400) : memRead16 s .oam off = some (oamHalf s off) :=
  memRead16_of_lt s .oam off h

theorem objAttr_eq (s : State) {n : Nat} (h : n < 128) :
    objAttr s n = some (ObjAttr.ofHalves (oamHalf s (8 * n)) (oamHalf s (8 * n + 2)) (oamHalf s (8 * n + 4))) := by
  rw [objAttr, memRead16_oam s (by omega), memRead16_oam s (by omega), memRead16_oam s (by omega)]
  rfl

/-- The size table of R162, a row a shape. -/
theorem objSize_eq (shape size : BitVec 2) : shape ≠ 3 →
    objSize shape size =
      (([[(8, 8), (16, 16), (32, 32), (64, 64)], [(16, 8), (32, 8), (32, 16), (64, 32)],
        [(8, 16), (8, 32), (16, 32), (32, 64)]] : List (List (Nat × Nat))).getD shape.toNat []).getD size.toNat (0, 0) := by
  revert shape size
  decide

/-! ## The box and the local coordinates (R342, R344, R345, R353) -/

section Coordinates
variable (o : ObjAttr)

/-- `double_size` as a factor (R345). -/
theorem doubled_eq (size : Nat) :
    (if o.double then 2 * size else size) = (if o.affine = true ∧ o.bit9 = true then 2 else 1) * size := by
  simp only [ObjAttr.double, Bool.and_eq_true]
  split
  · rfl
  · exact (Nat.one_mul size).symm

theorem boxWidth_eq : o.boxWidth = (if o.affine = true ∧ o.bit9 = true then 2 else 1) * o.width :=
  doubled_eq o o.width

theorem boxHeight_eq : o.boxHeight = (if o.affine = true ∧ o.bit9 = true then 2 else 1) * o.height :=
  doubled_eq o o.height

theorem covers_iff (y x : Nat) : o.covers y x = true ↔
    o.originY ≤ y ∧ (y : Int) < o.originY + o.boxHeight ∧ o.originX ≤ x ∧ (x : Int) < o.originX + o.boxWidth := by
  simp only [ObjAttr.covers, Bool.and_eq_true, decide_eq_true_eq, and_assoc]

theorem localX_eq (g : MosaicGroup) (x : Nat) :
    (o.localX g x : Int) =
      max 0 ((if o.mosaic then (x : Int) - x % (g.h.toNat + 1) else (x : Int)) - o.originX) := by
  have hcolumn : (mosaicColumn o.mosaic g.sizeX x : Int) =
      if o.mosaic then (x : Int) - x % (g.h.toNat + 1) else (x : Int) := by
    rw [mosaicColumn, Nat.cast_ite, Int.ofNat_sub (Nat.mod_le _ _)]
    rfl
  rw [ObjAttr.localX, Int.toNat_eq_max, hcolumn, max_comm]

theorem localY_eq (g : MosaicGroup) (y : Nat) :
    (o.localY g y : Int) =
      max 0 ((if o.mosaic then (y : Int) - g.counterY.toNat else (y : Int)) - o.originY) := by
  rw [ObjAttr.localY, Int.toNat_eq_max, max_comm]
  rfl

end Coordinates

/-! ## The texel of a local coordinate (R346, R347) -/

section Texel
variable {s : State} {o : ObjAttr} {y x : Nat}

theorem objColorAt_of_texel {tx ty : Nat}
    (h : objTexel s o (o.localX s.mosaic.obj x) (o.localY s.mosaic.obj y) = some (some (tx, ty))) :
    objColorAt s o y x = objPixel s o tx ty := by
  rw [objColorAt, h]
  rfl

theorem objColorAt_of_no_texel
    (h : objTexel s o (o.localX s.mosaic.obj x) (o.localY s.mosaic.obj y) = some none) :
    objColorAt s o y x = some none := by
  rw [objColorAt, h]
  rfl

/-- A local coordinate that may be flipped, read as a whole number or as an integer cut at 0. -/
theorem flipped_toNat (flip : Bool) (size l : Nat) :
    (if flip then (size : Int) - 1 - l else (l : Int)).toNat = if flip then size - 1 - l else l := by
  cases flip
  · rfl
  · simp only [if_true]
    omega

theorem objColorAt_regular (h : o.affine = false) :
    let lx : Int := o.localX s.mosaic.obj x
    let ly : Int := o.localY s.mosaic.obj y
    objColorAt s o y x = objPixel s o
      (if o.hflip then o.width - 1 - lx else lx).toNat (if o.vflip then o.height - 1 - ly else ly).toNat := by
  intro lx ly
  rw [flipped_toNat, flipped_toNat]
  exact objColorAt_of_texel (if_neg (ne_true_of_eq_false h))

/-- An affine parameter of an object's group (R163). -/
def groupParam (s : State) (o : ObjAttr) (k : Nat) : Int := (oamHalf s (32 * o.group.toNat + k)).toInt

/-- The texel column of an affine object, which may lie outside the texture (R347). -/
def affineX (s : State) (o : ObjAttr) (lx ly : Int) : Int :=
  (groupParam s o 6 * (lx - (o.boxWidth / 2 : Nat)) + groupParam s o 14 * (ly - (o.boxHeight / 2 : Nat))) / 256 +
    (o.width / 2 : Nat)

/-- The texel row of an affine object, which may lie outside the texture (R347). -/
def affineY (s : State) (o : ObjAttr) (lx ly : Int) : Int :=
  (groupParam s o 22 * (lx - (o.boxWidth / 2 : Nat)) + groupParam s o 30 * (ly - (o.boxHeight / 2 : Nat))) / 256 +
    (o.height / 2 : Nat)

theorem objTexel_affine (h : o.affine = true) (lx ly : Nat) :
    let tx := affineX s o lx ly
    let ty := affineY s o lx ly
    objTexel s o lx ly =
      some (if 0 ≤ tx ∧ tx < o.width ∧ 0 ≤ ty ∧ ty < o.height then some (tx.toNat, ty.toNat) else none) := by
  intro tx ty
  rw [objTexel, if_pos h, objParam_eq s o.group 6 (by decide), objParam_eq s o.group 14 (by decide),
    objParam_eq s o.group 22 (by decide), objParam_eq s o.group 30 (by decide)]
  exact (apply_ite some _ _ _).symm

end Texel

/-! ## The colour of a texel (R348, R349, R351) -/

section Pixel
variable {s : State} {o : ObjAttr} {tx ty : Nat}

theorem objTile_eq (s : State) (o : ObjAttr) (tx ty : Nat) :
    let u := if o.colors256 then 2 else 1
    objTile s o tx ty =
      (if s.dispcnt.oamMapping1d then o.tile.toNat + ty / 8 * (o.width / 8) * u + tx / 8 * u
      else (if o.colors256 then o.tile.toNat / 2 * 2 else o.tile.toNat) + ty / 8 * 32 + tx / 8 * u) % 1024 := by
  have heven : o.tile.toNat - o.tile.toNat % 2 = o.tile.toNat / 2 * 2 := by omega
  rw [objTile, heven]

/-- A texel that frame data covers (R351). -/
def Hidden (s : State) (o : ObjAttr) (tx ty : Nat) : Prop :=
  (s.dispcnt.mode = 3 ∨ s.dispcnt.mode = 4 ∨ s.dispcnt.mode = 5) ∧ objTile s o tx ty < 512

theorem hidden_iff : (bitmapMode s && decide (objTile s o tx ty < 512)) = true ↔ Hidden s o tx ty := by
  simp only [bitmapMode, Hidden, Bool.and_eq_true, Bool.or_eq_true, decide_eq_true_eq, or_assoc]

theorem objPixel_of_hidden (h : Hidden s o tx ty) : objPixel s o tx ty = some none := if_pos (hidden_iff.2 h)

/-- A byte of the object tiles (R164). -/
def tileByte (s : State) (off : Nat) : Byte := s.vram.read (0x10000 + off % 0x8000)

/-- Index 0 is transparent; any other index selects a colour of the object palette (R155). -/
theorem objIndexed_eq (s : State) (idx : Nat) {i : Nat} (h : i < 256) :
    (if idx = 0 then some none else (objColor s i).map some) = some (indexed s idx (0x200 + 2 * i)) := by
  rw [objColor_eq s i h]
  exact (apply_ite some _ _ _).symm

theorem objPixel_nibble (hshown : ¬ Hidden s o tx ty) (h : o.colors256 = false) :
    let idx := pixelNibble (tileByte s (32 * objTile s o tx ty + 4 * (ty % 8) + tx % 8 / 2)) (tx % 8)
    objPixel s o tx ty = some (indexed s idx (0x200 + 2 * (16 * o.palette.toNat + idx))) := by
  intro idx
  have hcolour : 16 * o.palette.toNat + idx < 256 := by
    have hidx : idx < 16 := pixelNibble_lt _ _
    omega
  rw [← objIndexed_eq s idx hcolour, objPixel, if_neg (mt hidden_iff.1 hshown), if_neg (ne_true_of_eq_false h),
    objFetch_eq]
  simp only [Option.bind_eq_bind, Option.bind_some, nibble_eq]
  rfl

theorem objPixel_byte (hshown : ¬ Hidden s o tx ty) (h : o.colors256 = true) :
    let idx := (tileByte s (32 * objTile s o tx ty + 8 * (ty % 8) + tx % 8)).toNat
    objPixel s o tx ty = some (indexed s idx (0x200 + 2 * idx)) := by
  intro idx
  rw [← objIndexed_eq s idx (BitVec.isLt _), objPixel, if_neg (mt hidden_iff.1 hshown), if_pos h, objFetch_eq]
  rfl

end Pixel

/-- Settles O60: attributes and size by their tables, the place of a screen pixel by `localX` and `localY`, the colour by
`objColorAt` and `objPixel`. -/
theorem objectPixels : Obligations.ObjectPixels := by
  refine ⟨fun s n hn => objAttr_eq s hn, fun o hshape => objSize_eq o.shape o.size hshape, fun s o y x => ?place,
    fun s o tx ty => ?colour⟩
  case place =>
    intro g scale bw bh ox oy xs ys lx ly param dx dy tx ty inside
    have hbw : o.boxWidth = bw := boxWidth_eq o
    have hbh : o.boxHeight = bh := boxHeight_eq o
    have hlx : (o.localX g x : Int) = lx := localX_eq o g x
    have hly : (o.localY g y : Int) = ly := localY_eq o g y
    have htx : affineX s o (o.localX g x) (o.localY g y) = tx := by rw [affineX, hbw, hbh, hlx, hly]; rfl
    have hty : affineY s o (o.localX g x) (o.localY g y) = ty := by rw [affineY, hbw, hbh, hlx, hly]; rfl
    refine ⟨?_, fun hreg => ?_, fun haff hin => ?_, fun haff hout => ?_⟩
    · rw [covers_iff, hbw, hbh]; rfl
    · rw [objColorAt_regular hreg, ← hlx, ← hly]
    · refine objColorAt_of_texel ((objTexel_affine haff _ _).trans ?_)
      rw [htx, hty, if_pos hin]
    · refine objColorAt_of_no_texel ((objTexel_affine haff _ _).trans ?_)
      rw [htx, hty, if_neg hout]
  case colour =>
    intro u number t byte hidden idx4 idx8
    have htile : objTile s o tx ty = t := objTile_eq s o tx ty
    have hhidden : Hidden s o tx ty ↔ hidden := by rw [Hidden, htile]
    refine ⟨fun h => objPixel_of_hidden (hhidden.2 h), fun h hpal => ?_, fun h hpal => ?_⟩
    · rw [objPixel_nibble (mt hhidden.1 h) hpal, htile]; rfl
    · rw [objPixel_byte (mt hhidden.1 h) hpal, htile]; rfl

end Sys2Proof.Machine.ObjectProofs
end

section
/-! PROOFS. Layer selection (R382, R383), the blend effect (R385), the blend unit (R386, R387) and the output pixel
(R398). -/

namespace Sys2Proof.Machine.ComposeProofs

open Sys2Proof Sys2Proof.Machine Sys2Proof.Machine.Claims
open Sys2Proof.Machine.RegisterProofs (extractLsb'_append_lit_low extractLsb'_append_lit_high)

/-! ## Layer selection (R382, R383) -/

theorem mem_bgLayer {s : State} {ctl : BitVec 6} {n : Ix4} {c : Slot} {l : Layer} :
    l ∈ bgLayer s ctl n c ↔ ∃ col, c = some col ∧ ctl.getLsbD n.toNat = true ∧
      l = ⟨(s.bgcnt.get n).priority.toNat, 1 + n.toNat, n.toNat, col⟩ := by
  cases c with
  | none => simp [bgLayer]
  | some col => cases h : ctl.getLsbD n.toNat <;> simp [bgLayer, h]

theorem mem_objLayer {ctl : BitVec 6} {d : ObjSlot} {l : Layer} :
    l ∈ objLayer ctl d ↔
      ∃ col, d.color = some col ∧ ctl.getLsbD 4 = true ∧ l = ⟨d.priority.toNat, 0, 4, col⟩ := by
  unfold objLayer
  cases d.color with
  | none => simp
  | some col => cases ctl.getLsbD 4 <;> simp

theorem bgLayer_orders_sublist (s : State) (ctl : BitVec 6) (n : Ix4) (c : Slot) :
    ((bgLayer s ctl n c).map (·.order)).Sublist [1 + n.toNat] := by
  cases c with
  | none => exact List.nil_sublist _
  | some col => cases h : ctl.getLsbD n.toNat <;> simp [bgLayer, h]

theorem objLayer_orders_sublist (ctl : BitVec 6) (d : ObjSlot) : ((objLayer ctl d).map (·.order)).Sublist [0] := by
  unfold objLayer
  cases d.color with
  | none => exact List.nil_sublist _
  | some col => cases ctl.getLsbD 4 <;> simp

/-- The candidates at a pixel before `compose` sorts them (R382). -/
def candidates (s : State) (ctl : BitVec 6) (c : Ix4 → Slot) (d : ObjSlot) : List Layer :=
  bgLayer s ctl .n0 (c .n0) ++ bgLayer s ctl .n1 (c .n1) ++ bgLayer s ctl .n2 (c .n2) ++ bgLayer s ctl .n3 (c .n3) ++
    objLayer ctl d

theorem mem_candidates {s : State} {ctl : BitVec 6} {c : Ix4 → Slot} {d : ObjSlot} {l : Layer} :
    l ∈ candidates s ctl c d ↔ (∃ n, l ∈ bgLayer s ctl n (c n)) ∨ l ∈ objLayer ctl d := by
  have hlayers : (∃ n, l ∈ bgLayer s ctl n (c n)) ↔
      l ∈ bgLayer s ctl .n0 (c .n0) ∨ l ∈ bgLayer s ctl .n1 (c .n1) ∨ l ∈ bgLayer s ctl .n2 (c .n2) ∨
        l ∈ bgLayer s ctl .n3 (c .n3) := by
    constructor
    · rintro ⟨n, hn⟩
      cases n <;> simp only [hn, true_or, or_true]
    · rintro (h | h | h | h) <;> exact ⟨_, h⟩
  simp only [candidates, List.mem_append, hlayers, or_assoc]

/-- The keys are distinct: the orders are among 1, 2, 3, 4 and 0, each at most once (R382). -/
theorem candidates_orders_nodup (s : State) (ctl : BitVec 6) (c : Ix4 → Slot) (d : ObjSlot) :
    ((candidates s ctl c d).map (·.order)).Nodup := by
  have hsub : ((candidates s ctl c d).map (·.order)).Sublist ([1] ++ [2] ++ [3] ++ [4] ++ [0]) := by
    simp only [candidates, List.map_append]
    exact ((((bgLayer_orders_sublist s ctl .n0 (c .n0)).append (bgLayer_orders_sublist s ctl .n1 (c .n1))).append
      (bgLayer_orders_sublist s ctl .n2 (c .n2))).append (bgLayer_orders_sublist s ctl .n3 (c .n3))).append
      (objLayer_orders_sublist ctl d)
  exact hsub.nodup (by decide)

/-- The effect on the two front-most of the sorted candidates, the backdrop behind them (R383). -/
def frontColor (s : State) (ctl : BitVec 6) (d : ObjSlot) (front : List Layer) : Color :=
  match front with
  | [] => effect s ctl d 5 (paletteColor s 0) none
  | [a] => effect s ctl d a.id a.color (some (5, paletteColor s 0))
  | a :: b :: _ => effect s ctl d a.id a.color (some (b.id, b.color))

theorem bgColor_zero (s : State) : bgColor s 0 = some (paletteColor s 0) := by
  rw [bgColor, memRead16_of_lt s .pram (2 * 0) (by decide)]
  rfl

theorem compose_eq_frontColor {s : State} {y x : Nat} {c : Ix4 → Slot} {d : ObjSlot}
    (hc : ∀ n, bgSlot s y n x = some (c n)) (hd : objSlot s y x = some d) :
    compose s y x =
      some (frontColor s (winCtl s y x d) d (sortLayers (candidates s (winCtl s y x d) c d))) := by
  simp only [compose, hc, hd, bgColor_zero, Option.bind_eq_bind, Option.bind_some]
  rw [← candidates]
  match sortLayers (candidates s (winCtl s y x d) c d) with
  | [] => rfl
  | [_] => rfl
  | _ :: _ :: _ => rfl

/-- Settles O57: the front-to-back list is `sortLayers` of the candidates, whose orders are distinct. -/
theorem composeTakesTheFrontTwo : Obligations.ComposeTakesTheFrontTwo := by
  intro s y x c d hc hd ctl back
  obtain ⟨hsorted, hmem⟩ := sortLayers_sorted _ (candidates_orders_nodup s ctl c d)
  refine ⟨sortLayers (candidates s ctl c d), fun l => ?_, hsorted, compose_eq_frontColor hc hd⟩
  simp only [hmem, mem_candidates, mem_bgLayer, mem_objLayer]

/-! ## The blend effect (R385) -/

section Effect
variable {s : State} {ctl : BitVec 6} {d : ObjSlot} {id : Nat} {top : Color} {second : Option (Nat × Color)}

/-- The front colour blended with a second target behind it, and nothing where none stands there (R385). -/
def blendedWith (s : State) (top : Color) (second : Option (Nat × Color)) : Option Color :=
  match second with
  | none => none
  | some (id2, c2) => if s.bldcnt.targets.e1.getLsbD id2 then some (alphaBlend s.eva s.evb top c2) else none

theorem blendedWith_target {id2 : Nat} {c2 : Color} (h : s.bldcnt.targets.e1.getLsbD id2 = true) :
    blendedWith s top (some (id2, c2)) = some (alphaBlend s.eva s.evb top c2) := if_pos h

theorem blendedWith_no_target
    (h : second = none ∨ ∃ id2 c2, second = some (id2, c2) ∧ ¬ s.bldcnt.targets.e1.getLsbD id2 = true) :
    blendedWith s top second = none := by
  obtain rfl | ⟨id2, c2, rfl, htarget⟩ := h
  · rfl
  · exact if_neg htarget

/-- The colour the selected effect gives, without the rule for semi-transparent objects (R385). -/
def selectedEffect (s : State) (id : Nat) (top : Color) (second : Option (Nat × Color)) : Color :=
  if !s.bldcnt.targets.e0.getLsbD id then top
  else
    match s.bldcnt.sfx.toNat with
    | 0 => top
    | 1 => (blendedWith s top second).getD top
    | 2 => brighten s.evy top
    | _ => darken s.evy top

theorem effect_eq (s : State) (ctl : BitVec 6) (d : ObjSlot) (id : Nat) (top : Color) (second : Option (Nat × Color)) :
    effect s ctl d id top second =
      if !ctl.getLsbD 5 then top
      else if decide (id = 4) && d.alpha && (blendedWith s top second).isSome then (blendedWith s top second).getD top
      else selectedEffect s id top second := rfl

theorem effect_disabled (hctl : ctl.getLsbD 5 = false) : effect s ctl d id top second = top := by
  rw [effect_eq, hctl]
  rfl

theorem effect_semi (hctl : ctl.getLsbD 5 = true) (hsemi : id = 4 ∧ d.alpha = true) {c : Color}
    (hblend : blendedWith s top second = some c) : effect s ctl d id top second = c := by
  simp [effect_eq, hctl, hsemi, hblend]

/-- Where nothing forces alpha blending, the selected effect decides. -/
theorem effect_unforced (hctl : ctl.getLsbD 5 = true)
    (h : blendedWith s top second = none ∨ ¬ (id = 4 ∧ d.alpha = true)) :
    effect s ctl d id top second = selectedEffect s id top second := by
  have hunforced : (decide (id = 4) && d.alpha && (blendedWith s top second).isSome) = false := by
    obtain hnone | hsemi := h
    · rw [hnone, Option.isSome_none, Bool.and_false]
    · have hnotsemi : (decide (id = 4) && d.alpha) = false := by simpa using hsemi
      rw [hnotsemi, Bool.false_and]
  rw [effect_eq, hctl, hunforced]
  rfl

theorem selectedEffect_not_first (h : ¬ s.bldcnt.targets.e0.getLsbD id = true) :
    selectedEffect s id top second = top := by
  simp [selectedEffect, h]

theorem selectedEffect_none (h : s.bldcnt.sfx = 0) : selectedEffect s id top second = top := by
  simp [selectedEffect, h]

theorem selectedEffect_alpha (hfirst : s.bldcnt.targets.e0.getLsbD id = true) (h : s.bldcnt.sfx = 1) :
    selectedEffect s id top second = (blendedWith s top second).getD top := by
  simp [selectedEffect, hfirst, h]

theorem selectedEffect_brighten (hfirst : s.bldcnt.targets.e0.getLsbD id = true) (h : s.bldcnt.sfx = 2) :
    selectedEffect s id top second = brighten s.evy top := by
  simp [selectedEffect, hfirst, h]

theorem selectedEffect_darken (hfirst : s.bldcnt.targets.e0.getLsbD id = true) (h : s.bldcnt.sfx = 3) :
    selectedEffect s id top second = darken s.evy top := by
  simp [selectedEffect, hfirst, h]

end Effect

/-- Settles O58: a semi-transparent object over a second target blends; elsewhere `selectedEffect` decides. -/
theorem effectBranches : Obligations.EffectBranches := by
  intro s ctl d id top second isFirst semi target e
  refine ⟨effect_disabled, fun hctl id2 c2 hsecond htarget hblends => ?blends, fun hctl hunforced => ?unforced,
    fun hctl hfirst hsfx hno => ?alone⟩
  case blends =>
    have hblend : blendedWith s top second = some (alphaBlend s.eva s.evb top c2) := by
      rw [hsecond, blendedWith_target htarget]
    by_cases hsemi : semi
    · exact effect_semi hctl hsemi hblend
    · obtain ⟨hfirst, hsfx⟩ := hblends.resolve_left hsemi
      rw [show e = _ from effect_unforced hctl (.inr hsemi), selectedEffect_alpha hfirst hsfx, hblend]
      rfl
  case unforced =>
    have he : e = selectedEffect s id top second :=
      effect_unforced hctl ((or_assoc.2 hunforced).imp_left blendedWith_no_target)
    rw [he]
    exact ⟨fun h => h.elim selectedEffect_not_first selectedEffect_none, selectedEffect_brighten,
      selectedEffect_darken⟩
  case alone =>
    have hnone : blendedWith s top second = none := blendedWith_no_target hno
    rw [show e = _ from effect_unforced hctl (.inl hnone), selectedEffect_alpha hfirst hsfx, hnone]
    rfl

/-! ## The blend unit and the output pixel (R386, R387, R391, R392, R398) -/

theorem channel_le (c : Color) (k : Nat) : channel c k ≤ 31 := Nat.le_of_lt_succ (BitVec.isLt _)

theorem blend5_le (fa fb a b : Nat) : blend5 fa fb a b ≤ 31 := Nat.min_le_left _ _

/-- `channel` reads back the values of `ofChannels`, which hold 5 bits each (R386). -/
theorem channel_ofChannels (f : Nat → Nat) (hf : ∀ k, f k ≤ 31) {k : Nat} (hk : k < 3) :
    channel (ofChannels (f 0) (f 1) (f 2)) k = f k := by
  have hfits (k : Nat) : (BitVec.ofNat 5 (f k)).toNat = f k := Nat.mod_eq_of_lt (Nat.lt_succ_of_le (hf k))
  unfold channel ofChannels
  match k with
  | 0 => rw [extractLsb'_append_lit_low _ _ (by decide), BitVec.extractLsb'_eq_self, hfits]
  | 1 => rw [extractLsb'_append_lit_high _ _ (by decide), BitVec.extractLsb'_append_eq_right, hfits]
  | 2 => rw [extractLsb'_append_lit_high _ _ (by decide), BitVec.extractLsb'_append_eq_left, hfits]

theorem ofChannels_channel (c : Color) : ofChannels (channel c 0) (channel c 1) (channel c 2) = c := by
  simp only [ofChannels, channel, BitVec.ofNat_toNat, BitVec.setWidth_eq]
  rw [BitVec.extractLsb'_append_extractLsb'_eq_extractLsb' (by rfl)]
  exact BitVec.extractLsb'_append_extractLsb' (w := 10) (len := 5)

theorem channel_alphaBlend (eva evb : BitVec 5) (a b : Color) {k : Nat} (hk : k < 3) :
    channel (alphaBlend eva evb a b) k =
      blend5 (clampFactor eva) (clampFactor evb) (channel a k) (channel b k) :=
  channel_ofChannels (fun k => blend5 (clampFactor eva) (clampFactor evb) (channel a k) (channel b k))
    (fun _ => blend5_le _ _ _ _) hk

theorem channel_fade (evy : BitVec 5) (target : Nat) (a : Color) {k : Nat} (hk : k < 3) :
    channel (fade evy target a) k = blend5 (16 - clampFactor evy) (clampFactor evy) (channel a k) target :=
  channel_ofChannels (fun k => blend5 (16 - clampFactor evy) (clampFactor evy) (channel a k) target)
    (fun _ => blend5_le _ _ _ _) hk

/-- Brightening moves a channel the given sixteenths of its way to 31 (R387). -/
theorem blend5_toward_31 {f v : Nat} (hf : f ≤ 16) (hv : v ≤ 31) :
    blend5 (16 - f) f v 31 = v + (31 - v) * f / 16 := by
  have hsum : v * (16 - f) + 31 * f = v * 16 + (31 - v) * f := by
    obtain ⟨g, hg⟩ := Nat.exists_eq_add_of_le hf
    obtain ⟨u, hu⟩ := Nat.exists_eq_add_of_le hv
    rw [hg, hu, Nat.add_sub_cancel_left, Nat.add_sub_cancel_left]
    ring
  have hpart : (31 - v) * f ≤ (31 - v) * 16 := Nat.mul_le_mul_left _ hf
  rw [blend5, hsum]
  omega

theorem blend5_toward_0 {f v : Nat} (hv : v ≤ 31) : blend5 (16 - f) f v 0 = v * (16 - f) / 16 := by
  have hpart : v * (16 - f) ≤ v * 16 := Nat.mul_le_mul_left _ (Nat.sub_le _ _)
  rw [blend5]
  omega

theorem blend5_self {fa fb v : Nat} (hsum : fa + fb = 16) (hv : v ≤ 31) : blend5 fa fb v v = v := by
  rw [blend5, ← Nat.mul_add, hsum, Nat.mul_div_cancel _ (by decide), Nat.min_eq_right hv]

theorem alphaBlend_self {eva evb : BitVec 5} (hsum : eva.toNat + evb.toNat = 16) (a : Color) :
    alphaBlend eva evb a a = a := by
  have hclamped : clampFactor eva + clampFactor evb = 16 := by
    simp only [clampFactor]
    omega
  simp only [alphaBlend, blend5_self hclamped (channel_le _ _), ofChannels_channel]

/-- Each `++` of the pixel is a shift and an `|||` (R398). -/
theorem convertColor_argb32 (c : Color) : convertColor .argb32 c =
    0xFF000000 ||| ((c.extractLsb' 0 5).setWidth 32 <<< 19) ||| ((c.extractLsb' 5 5).setWidth 32 <<< 11) |||
      ((c.extractLsb' 10 5).setWidth 32 <<< 3) := by
  refine (BitVec.setWidth_eq _).symm.trans ?_
  unfold convertColor
  simp only [BitVec.setWidth_append_eq_shiftLeft_setWidth_or, BitVec.shiftLeft_or_distrib, ← BitVec.shiftLeft_add]
  simp

/-- Settles O59: every channel is a `blend5` with clamped factors, which is then the stated number. -/
theorem blendAndPixelArithmetic : Obligations.BlendAndPixelArithmetic := by
  refine ⟨fun eva evb a b k hk => channel_alphaBlend eva evb a b hk, fun evy a k hk => ⟨?_, ?_⟩,
    fun eva evb => alphaBlend_self, convertColor_argb32⟩
  · exact (channel_fade evy 31 a hk).trans (blend5_toward_31 (Nat.min_le_left _ _) (channel_le a k))
  · exact (channel_fade evy 0 a hk).trans (blend5_toward_0 (channel_le a k))

end Sys2Proof.Machine.ComposeProofs
end

section
/-! PROOFS. The free-running and the cascaded step of a timer (R413, R415), and the timer step as a whole (R411). -/

namespace Sys2Proof.Machine.TimerProofs

open Sys2Proof Sys2Proof.Machine Sys2Proof.Machine.Claims

theorem append_wrapRecords (s : State) (k : Ix4) {n : Nat} (hn : n ≠ 0) : s.out ++ wrapRecords s k n =
    s.out ++ (if (s.tm.get k).interrupt then [⟨.raise (.timer k), s.sched.now, none⟩] else []) ++
      [⟨.timerOverflow k n, s.sched.now, none⟩] := by
  rw [wrapRecords, if_neg hn, List.append_assoc]

/-! ## The free-running step in natural numbers (R413) -/

theorem prescaleShift_eq_shiftOf : ∀ f, prescaleShift f = shiftOf f := by decide

theorem prescaleMask_add_one : ∀ f, prescaleMask f + 1 = 2 ^ shiftOf f := by decide

theorem ofInt_toNat_add {w : Nat} (x : BitVec w) (n : Nat) : BitVec.ofInt w (x.toNat + n) = x + BitVec.ofNat w n := by
  rw [← Nat.cast_add, BitVec.ofInt_natCast, BitVec.ofNat_add, BitVec.ofNat_toNat, BitVec.setWidth_eq]

section Free
variable (t : Timer) (delta : Nat)

/-- The counts that `delta` cycles ask for. -/
def increments : Nat := (t.cycles.toNat + delta) / 2 ^ shiftOf t.frequency

/-- The cycles that remain below the next count. -/
def subTick : BitVec 32 := BitVec.ofNat 32 ((t.cycles.toNat + delta) % 2 ^ shiftOf t.frequency)

/-- The counts up to the next wrap. -/
def room : Nat := 0x10000 - t.counter.toNat

/-- The counts from one wrap to the next. -/
def period : Nat := 0x10000 - t.reload.toNat

/-- `Timer.free` computes on integers; none of them is negative. -/
theorem free_eq_nat (hcycles : 0 ≤ t.cycles.toInt) : t.free delta =
    if increments t delta < room t then
      ({ t with cycles := subTick t delta, counter := t.counter + BitVec.ofNat 16 (increments t delta) }, 0)
    else
      ({ t with
          cycles := subTick t delta
          counter := t.reload + BitVec.ofNat 16 ((increments t delta - room t) % period t)
          overflow := true },
       1 + (increments t delta - room t) / period t) := by
  have hmsb : t.cycles.msb = false := by
    rwa [BitVec.msb_eq_toInt, decide_eq_false_iff_not, not_lt]
  have havail : t.cycles.toInt + delta = (t.cycles.toNat + delta : Nat) := by
    rw [BitVec.toInt_eq_toNat_of_msb hmsb, Nat.cast_add]
  have hinc : (t.cycles.toInt + delta) / 2 ^ prescaleShift t.frequency = increments t delta := by
    rw [havail, prescaleShift_eq_shiftOf, increments]
    norm_cast
  have hsub : BitVec.ofInt 32 ((t.cycles.toInt + delta) % (prescaleMask t.frequency + 1)) = subTick t delta := by
    rw [havail, ← Nat.cast_add_one, prescaleMask_add_one, ← Int.natCast_emod, BitVec.ofInt_natCast, subTick]
  have hroom : (0x10000 : Int) - t.counter.toNat = room t := by
    rw [room, Nat.cast_sub t.counter.isLt.le]; rfl
  have hperiod : (0x10000 : Int) - t.reload.toNat = period t := by
    rw [period, Nat.cast_sub t.reload.isLt.le]; rfl
  unfold Timer.free
  simp only [hinc, hsub, hroom, hperiod, Nat.cast_lt, ofInt_toNat_add]
  split_ifs with hfits
  · rfl
  · rw [← Nat.cast_sub (not_lt.1 hfits), ← Int.natCast_emod, ← Int.natCast_ediv, ofInt_toNat_add, ← Nat.cast_one,
      ← Nat.cast_add, Int.toNat_natCast]

end Free

/-- Settles O45: `free_eq_nat` for the registers, `append_wrapRecords` for the outputs. The bound on the sum is not needed. -/
theorem freeRunningTimerStep : Obligations.FreeRunningTimerStep := by
  intro s k delta hcycles _ t avail inc cycles room period
  have hfree := free_eq_nat t delta hcycles
  rw [stepFree_eq]
  refine ⟨fun hfits => ?_, fun hwraps => ?_⟩
  · rw [hfree.trans (if_pos hfits), wrapRecords, if_pos rfl, List.append_nil]
    rfl
  · rw [hfree.trans (if_neg (not_lt.2 hwraps)), append_wrapRecords s k (Nat.add_pos_left one_pos _).ne']
    rfl

/-! ## The cascaded step (R415) -/

theorem eq_of_toNat_eq {i j : Ix4} (h : i.toNat = j.toNat) : i = j := by
  cases i <;> cases j <;> simp [Ix4.toNat] at h ⊢

theorem ne_of_toNat_eq_succ {below k : Ix4} (hk : k.toNat = below.toNat + 1) : below ≠ k := by
  rintro rfl
  omega

theorem cascadePath_of_toNat {below k : Ix4} (hk : k.toNat = below.toNat + 1) (s : State) :
    cascadePath k s = stepCascade below k s :=
  match below, k, hk with
  | .n0, .n1, _ | .n1, .n2, _ | .n2, .n3, _ => rfl

/-- Settles O47: the three clauses are the branches of `stepCascade_eq`. -/
theorem cascadedTimerStep : Obligations.CascadedTimerStep := by
  refine ⟨fun _ => rfl, ?_⟩
  intro s below k hk low t consumed
  rw [cascadePath_of_toNat hk, stepCascade_eq _ _ _ (ne_of_toNat_eq_succ hk)]
  refine ⟨fun hclear => ?_, fun hset hcount => ?_, fun hset hfull => ?_⟩
  · exact if_neg (Bool.eq_false_iff.1 hclear)
  · rw [if_pos hset, if_neg hcount]
  · rw [if_pos hset, if_pos hfull, append_wrapRecords s k one_ne_zero]

/-! ## The timer step as a whole (R411) -/

/-- A timer without its overflow flag, as a whole step leaves it. -/
def cleared (t : Timer) : Timer := { t with overflow := false }

theorem clearOverflows_eq (s : State) : clearOverflows s =
    { s with tm := ⟨cleared s.tm.e0, cleared s.tm.e1, cleared s.tm.e2, cleared s.tm.e3⟩ } := by
  simp only [clearOverflows, setOverflow, setTimer, Four.set, Four.get, cleared]

theorem wrapRecords_congr {s u : State} {k : Ix4} (htm : u.tm.get k = s.tm.get k) (hsched : u.sched = s.sched) (n : Nat) :
    wrapRecords u k n = wrapRecords s k n := by
  rw [wrapRecords, wrapRecords, htm, hsched]

/-- In `u` the timers up to `k` have taken their turns of a step from `s`, with the results `turns`. -/
structure TurnsTaken (s : State) (turns : Four (Timer × Nat)) (k : Ix4) (out : List OutRecord) (u : State) : Prop where
  frame : u = { s with tm := u.tm, out := out }
  waiting : ∀ j, k.toNat < j.toNat → u.tm.get j = s.tm.get j
  flag : (u.tm.get k).overflow = ((s.tm.get k).overflow || decide (1 ≤ (turns.get k).2))
  taken : ∀ j, j.toNat ≤ k.toNat → cleared (u.tm.get j) = cleared (turns.get j).1

theorem TurnsTaken.zero {s : State} {turns : Four (Timer × Nat)} {delta : Nat}
    (hturn : turns.get .n0 = Timer.turn (s.tm.get .n0) false delta) :
    TurnsTaken s turns .n0 (s.out ++ wrapRecords s .n0 (turns.get .n0).2) (stepTimer .n0 delta s) := by
  obtain ⟨hframe, hothers, hself⟩ := stepTimer_turn_zero delta s
  rw [← hturn] at hframe hself
  refine ⟨hframe, fun j hj => hothers j ?_, by rw [hself], fun j hj => ?_⟩
  · rintro rfl
    exact lt_irrefl _ hj
  · obtain rfl : j = .n0 := eq_of_toNat_eq (Nat.le_zero.1 hj)
    rw [hself, cleared, cleared]

/-- The next timer up takes its turn: it sees the flag of the timer below, and clears that flag at most. -/
theorem TurnsTaken.succ {s u : State} {turns : Four (Timer × Nat)} {below k : Ix4} {out : List OutRecord} {delta : Nat}
    (h : TurnsTaken s turns below out u) (hk : k.toNat = below.toNat + 1)
    (hturn : turns.get k =
      Timer.turn (s.tm.get k) ((s.tm.get below).overflow || decide (1 ≤ (turns.get below).2)) delta) :
    TurnsTaken s turns k (out ++ wrapRecords s k (turns.get k).2) (stepTimer k delta u) := by
  have hwaiting : u.tm.get k = s.tm.get k := h.waiting k (by omega)
  have hk0 : k ≠ .n0 := by rintro rfl; exact absurd hk (Nat.succ_ne_zero _).symm
  obtain ⟨hframe, hothers, hbelow, hself⟩ := stepTimer_turn k hk0 below hk delta u
  rw [hwaiting, h.flag, ← hturn] at hframe hself
  have hsched : u.sched = s.sched := by rw [h.frame]
  have hout : u.out = out := by rw [h.frame]
  refine ⟨?frame, fun j hj => ?waiting, by rw [hself], fun j hj => ?taken⟩
  case frame =>
    rw [wrapRecords_congr hwaiting hsched, hout] at hframe
    exact hframe.trans (by rw [h.frame])
  case waiting =>
    rw [hothers j (by rintro rfl; omega) (by rintro rfl; omega), h.waiting j (by omega)]
  case taken =>
    by_cases hjk : j = k
    · rw [hjk, hself, cleared, cleared]
    · have hle : j.toNat ≤ below.toNat := by
        have : j.toNat ≠ k.toNat := fun he => hjk (eq_of_toNat_eq he)
        omega
      rw [← h.taken j hle]
      by_cases hjb : j = below
      · rw [hjb]; exact hbelow
      · rw [hothers j hjk hjb]

/-- Where all four have taken their turns, clearing the flags ends the step. -/
theorem TurnsTaken.clearOverflows {s u : State} {turns : Four (Timer × Nat)} {out : List OutRecord}
    (h : TurnsTaken s turns .n3 out u) : clearOverflows u =
      { s with
        tm := ⟨cleared turns.e0.1, cleared turns.e1.1, cleared turns.e2.1, cleared turns.e3.1⟩
        out := out } := by
  have h0 : cleared u.tm.e0 = _ := h.taken .n0 (by decide)
  have h1 : cleared u.tm.e1 = _ := h.taken .n1 (by decide)
  have h2 : cleared u.tm.e2 = _ := h.taken .n2 (by decide)
  have h3 : cleared u.tm.e3 = _ := h.taken .n3 (by decide)
  rw [clearOverflows_eq, h0, h1, h2, h3, h.frame]
  rfl

theorem turn_disabled {t : Timer} (h : t.enable = false) (below : Bool) (delta : Nat) : t.turn below delta = (t, 0) := by
  simp [Timer.turn, h]

theorem turn_free {t : Timer} (he : t.enable = true) (hc : t.cascade = false) (below : Bool) (delta : Nat) :
    t.turn below delta = t.free delta := by
  simp [Timer.turn, he, hc]

theorem turn_cascaded_clear {t : Timer} (he : t.enable = true) (hc : t.cascade = true) (delta : Nat) :
    t.turn false delta = (t, 0) := by
  simp [Timer.turn, he, hc]

/-- Settles O48: the turns are taken one by one (`TurnsTaken`); the clauses on single timers are the cases of `Timer.turn`. -/
theorem timerRunLeavesNoFlagAndSkipsDisabled : Obligations.TimerRunLeavesNoFlagAndSkipsDisabled := by
  intro s delta t r0 r1 r2 r3 settled
  have hturns0 : TurnsTaken s ⟨r0, r1, r2, r3⟩ .n0 _ _ := .zero rfl
  have hrun := (((hturns0.succ (k := .n1) rfl rfl).succ (k := .n2) rfl rfl).succ (k := .n3) rfl rfl).clearOverflows
  have hturn : ∀ k, ∃ below, t.tm.get k = cleared ((s.tm.get k).turn below delta).1 := by
    have htm : t.tm = ⟨settled r0, settled r1, settled r2, settled r3⟩ := congrArg State.tm hrun
    intro k
    rw [htm]
    cases k <;> exact ⟨_, rfl⟩
  refine ⟨hrun, timerRun_overflow delta s, fun k hdisabled => ?disabled, fun k hen hfree => ?free,
    fun hen hcascade => ?timer0⟩
  case disabled =>
    obtain ⟨below, hk⟩ := hturn k
    rw [hk, turn_disabled hdisabled, cleared]
  case free =>
    obtain ⟨below, hk⟩ := hturn k
    rw [hk, turn_free hen hfree, cleared]
  case timer0 =>
    have h0 : t.tm.e0 = cleared ((s.tm.get .n0).turn false delta).1 := congrArg (·.tm.e0) hrun
    rw [show t.tm.get .n0 = _ from h0, turn_cascaded_clear hen hcascade, cleared]

end Sys2Proof.Machine.TimerProofs
end

section
/-! PROOFS. The decoder and the encoder (R110 to R122, R150): the round trips, and the words that are refused. -/

namespace Sys2Proof.Machine.DecodeProofs

open Sys2Proof Sys2Proof.Machine Sys2Proof.Machine.Claims
open Sys2Proof.Machine.RegisterProofs (laneOf_hi_append_lo)
open Sys2Proof.Machine.MemoryProofs (decodeAddr_eq_some_iff)

/-! ## Runs of bits of a word -/

theorem extractLsb'_zero_append_high {n m : Nat} (x : BitVec m) {i len : Nat} (h : m ≤ i) :
    ((0#n) ++ x).extractLsb' i len = 0#len := by
  rw [BitVec.extractLsb'_append_eq_of_le h, BitVec.extractLsb'_zero]

/-- A run of bits is zero where its two parts are. -/
theorem extractLsb'_eq_zero_iff {n : Nat} (w : BitVec n) (i a b : Nat) :
    w.extractLsb' i (a + b) = 0 ↔ w.extractLsb' (i + a) b = 0 ∧ w.extractLsb' i a = 0 := by
  simp only [BitVec.eq_of_getLsbD_eq_iff, BitVec.getLsbD_extractLsb']
  constructor
  · refine fun h => ⟨fun j hj => ?_, fun j hj => ?_⟩
    · have := h (a + j) (by omega)
      simpa [hj, Nat.add_assoc] using this
    · have := h j (by omega)
      simpa [hj, Nat.lt_add_right b hj] using this
  · rintro ⟨hhigh, hlow⟩ j hj
    by_cases hja : j < a
    · simpa [hj, hja] using hlow j hja
    · have := hhigh (j - a) (by omega)
      simpa [hj, show j - a < b by omega, show i + a + (j - a) = i + j by omega] using this

/-! ## The fields of a command word (R111) -/

theorem advWord_fields (delta : BitVec 32) :
    wordOp ((0#32) ++ delta) = 0 ∧ wordAdvZero ((0#32) ++ delta) = 0 ∧ wordDelta ((0#32) ++ delta) = delta :=
  ⟨extractLsb'_zero_append_high delta (by decide), extractLsb'_zero_append_high delta (by decide),
    BitVec.extractLsb'_append_eq_right⟩

theorem advWord_of_fields {w : Word64} (hop : wordOp w = 0) (hzero : wordAdvZero w = 0) :
    (0#32) ++ wordDelta w = w := by
  have hhigh : w.extractLsb' 32 32 = 0 := (extractLsb'_eq_zero_iff w 32 28 4).2 ⟨hop, hzero⟩
  calc (0#32) ++ wordDelta w = w.extractLsb' 32 32 ++ w.extractLsb' 0 32 := by rw [hhigh]; rfl
    _ = w := BitVec.extractLsb'_append_extractLsb' (w := 32) (len := 32)

/-- The fields of a bus word are the whole word (R111). -/
theorem busWord_eq_of_fields {w : Word64} {op : BitVec 4} {addr : BitVec 32} {data : Half} (hop : wordOp w = op)
    (haddr : wordAddr w = addr) (hzero : wordZero w = 0) (hdata : wordData w = data) : busWord op addr data = w := by
  subst hop haddr hdata
  calc busWord (wordOp w) (wordAddr w) (wordData w)
      = wordOp w ++ wordAddr w ++ wordZero w ++ wordData w := by rw [hzero]; rfl
    _ = w := by
      simp only [wordOp, wordAddr, wordZero, wordData]
      rw [BitVec.extractLsb'_append_extractLsb'_eq_extractLsb' (by rfl),
        BitVec.extractLsb'_append_extractLsb'_eq_extractLsb' (by rfl)]
      exact BitVec.extractLsb'_append_extractLsb' (w := 48) (len := 16)

theorem byteData_of_high_zero {h : Half} (hzero : h.extractLsb' 8 8 = 0) : byteData (h.extractLsb' 0 8) = h := by
  have hhigh : laneOf h .hi = 0 := hzero
  calc byteData (h.extractLsb' 0 8) = laneOf h .hi ++ laneOf h .lo := by rw [hhigh]; rfl
    _ = h := laneOf_hi_append_lo h

/-! ## What the decoder answers (R111 to R113) -/

/-- The words that spell a command, and the command each spells. -/
inductive Spells : Word64 → Instr → Prop
  | adv (delta : BitVec 32) (h : delta.toNat ≤ Config.maxDelta) : Spells ((0#32) ++ delta) (.adv delta)
  | rst : Spells (busWord 1 0 0) .rst
  | rd8 (addr : BitVec 32) : Spells (busWord 2 addr 0) (rd8Row addr)
  | rd16 (addr : BitVec 32) : Spells (busWord 3 addr 0) (rd16Row addr)
  | wr8 (addr : BitVec 32) (v : Byte) : Spells (busWord 4 addr (byteData v)) (wr8Row addr v)
  | wr16 (addr : BitVec 32) (v : Half) : Spells (busWord 5 addr v) (wr16Row addr v)

theorem Spells.congr {v w : Word64} {i : Instr} (h : Spells v i) (hvw : v = w) : Spells w i := hvw ▸ h

theorem spells_of_decode {w : Word64} {i : Instr} (h : decode (.command w) = .ok i) : Spells w i := by
  simp only [decode, decodeCommand] at h
  split at h
  case h_1 hop =>
    split_ifs at h with hzero hbound
    cases h
    exact (Spells.adv _ hbound).congr (advWord_of_fields (BitVec.eq_of_toNat_eq hop) hzero)
  case h_2 hop =>
    split_ifs at h with hfields
    cases h
    obtain ⟨haddr, hzero, hdata⟩ := hfields
    exact Spells.rst.congr (busWord_eq_of_fields (BitVec.eq_of_toNat_eq hop) haddr hzero hdata)
  case h_3 hop =>
    split_ifs at h with hfields
    cases h
    obtain ⟨hzero, hdata⟩ := hfields
    exact (Spells.rd8 _).congr (busWord_eq_of_fields (BitVec.eq_of_toNat_eq hop) rfl hzero hdata)
  case h_4 hop =>
    split_ifs at h with hfields
    cases h
    obtain ⟨hzero, hdata⟩ := hfields
    exact (Spells.rd16 _).congr (busWord_eq_of_fields (BitVec.eq_of_toNat_eq hop) rfl hzero hdata)
  case h_5 hop =>
    split_ifs at h with hfields
    cases h
    obtain ⟨hzero, hhigh⟩ := hfields
    exact (Spells.wr8 _ _).congr
      (busWord_eq_of_fields (BitVec.eq_of_toNat_eq hop) rfl hzero (byteData_of_high_zero hhigh).symm)
  case h_6 hop =>
    split_ifs at h with hzero
    cases h
    exact (Spells.wr16 _ _).congr (busWord_eq_of_fields (BitVec.eq_of_toNat_eq hop) rfl hzero rfl)
  case h_7 => cases h

theorem decode_of_spells {w : Word64} {i : Instr} (h : Spells w i) : decode (.command w) = .ok i := by
  cases h with
  | adv delta h =>
    obtain ⟨hop, hzero, hdelta⟩ := advWord_fields delta
    simp [decode, decodeCommand, hop, hzero, hdelta, h]
  | rst => decide
  | rd8 addr => exact decode_rd8 addr
  | rd16 addr => exact decode_rd16 addr
  | wr8 addr v => exact decode_wr8 addr v
  | wr16 addr v => exact decode_wr16 addr v

/-! ## The rows of an address, and their words (R120, R122) -/

theorem ofNat_addr_of_decodeAddr {addr : BitVec 32} {l : Loc} (h : decodeAddr addr = some l) :
    BitVec.ofNat 32 l.addr = addr := by
  rw [((decodeAddr_eq_some_iff addr l).1 h).2, BitVec.ofNat_toNat, BitVec.setWidth_eq]

theorem wellFormed_regRows (r : Reg) (lane : Lane) :
    WellFormed (rd8At r lane) = true ∧ WellFormed (rd16At r) = true ∧
    (∀ v, WellFormed (wr8At r lane v) = true) ∧ ∀ v, WellFormed (wr16At r v) = true := by
  cases r with
  | bgcnt n | bghofs n | bgvofs n | tmcntL n | tmcntH n =>
    cases n <;> cases lane <;> exact ⟨rfl, rfl, fun _ => rfl, fun _ => rfl⟩
  | bgpa i | bgpb i | bgpc i | bgpd i | bgxLow i | bgxHigh i | bgyLow i | bgyHigh i | winh i | winv i =>
    cases i <;> cases lane <;> exact ⟨rfl, rfl, fun _ => rfl, fun _ => rfl⟩
  | _ => cases lane <;> exact ⟨rfl, rfl, fun _ => rfl, fun _ => rfl⟩

theorem wellFormed_memRows (sp : Space) (off : Nat) :
    WellFormed (rd8Mem sp off) = true ∧ WellFormed (rd16Mem sp off) = true ∧
    (∀ v, WellFormed (wr8Mem sp off v) = true) ∧ ∀ v, WellFormed (wr16Mem sp off v) = true := by
  cases sp with
  | pram | oam => exact ⟨rfl, rfl, fun _ => rfl, fun _ => rfl⟩
  | vram =>
    simp only [rd8Mem, rd16Mem, wr8Mem, wr16Mem]
    split
    · exact ⟨rfl, rfl, fun _ => rfl, fun _ => rfl⟩
    · exact ⟨rfl, rfl, fun _ => rfl, fun _ => rfl⟩

/-- The row of an address is well-formed and is written as the command at that address (R111). -/
theorem rd8Row_word (addr : BitVec 32) :
    WellFormed (rd8Row addr) = true ∧ encode (rd8Row addr) = .command (busWord 2 addr 0) := by
  unfold rd8Row
  split
  case h_1 r lane h =>
    exact ⟨(wellFormed_regRows r lane).1, by rw [encode_rd8At, ofNat_addr_of_decodeAddr h]⟩
  case h_2 sp off h =>
    obtain ⟨hoff, haddr⟩ := decodeAddr_some_mem addr sp off h
    exact ⟨(wellFormed_memRows sp off).1, by rw [encode_rd8Mem sp off hoff, ← haddr]⟩
  case h_3 h => exact ⟨by rw [WellFormed, noByteRow, h]; rfl, rfl⟩

theorem wr8Row_word (addr : BitVec 32) (v : Byte) :
    WellFormed (wr8Row addr v) = true ∧ encode (wr8Row addr v) = .command (busWord 4 addr (byteData v)) := by
  unfold wr8Row
  split
  case h_1 r lane h =>
    exact ⟨(wellFormed_regRows r lane).2.2.1 v, by rw [encode_wr8At, ofNat_addr_of_decodeAddr h]⟩
  case h_2 sp off h =>
    obtain ⟨hoff, haddr⟩ := decodeAddr_some_mem addr sp off h
    exact ⟨(wellFormed_memRows sp off).2.2.1 v, by rw [encode_wr8Mem sp off v hoff, ← haddr]⟩
  case h_3 h => exact ⟨by rw [WellFormed, noByteRow, h]; rfl, rfl⟩

theorem rd16Row_word (addr : BitVec 32) :
    WellFormed (rd16Row addr) = true ∧ encode (rd16Row addr) = .command (busWord 3 addr 0) := by
  unfold rd16Row
  split
  case h_1 r h =>
    exact ⟨(wellFormed_regRows r .lo).2.1, by rw [encode_rd16At, ofNat_addr_of_decodeAddr h]⟩
  case h_2 h => exact ⟨by rw [WellFormed, noHalfRow, h], rfl⟩
  case h_3 sp off h =>
    obtain ⟨hoff, haddr⟩ := decodeAddr_some_mem addr sp off h
    exact ⟨(wellFormed_memRows sp off).2.1, by rw [encode_rd16Mem sp off hoff, ← haddr]⟩
  case h_4 h => exact ⟨by rw [WellFormed, noHalfRow, h], rfl⟩

theorem wr16Row_word (addr : BitVec 32) (v : Half) :
    WellFormed (wr16Row addr v) = true ∧ encode (wr16Row addr v) = .command (busWord 5 addr v) := by
  unfold wr16Row
  split
  case h_1 r h =>
    exact ⟨(wellFormed_regRows r .lo).2.2.2 v, by rw [encode_wr16At, ofNat_addr_of_decodeAddr h]⟩
  case h_2 h => exact ⟨by rw [WellFormed, noHalfRow, h], rfl⟩
  case h_3 sp off h =>
    obtain ⟨hoff, haddr⟩ := decodeAddr_some_mem addr sp off h
    exact ⟨(wellFormed_memRows sp off).2.2.2 v, by rw [encode_wr16Mem sp off v hoff, ← haddr]⟩
  case h_4 h => exact ⟨by rw [WellFormed, noHalfRow, h], rfl⟩

theorem rd8Row_of_wellFormed {addr : BitVec 32} (h : WellFormed (.rd8 addr) = true) : rd8Row addr = .rd8 addr := by
  have hnone : decodeAddr addr = none := by simpa [WellFormed, noByteRow] using h
  rw [rd8Row, hnone]

theorem wr8Row_of_wellFormed {addr : BitVec 32} {v : Byte} (h : WellFormed (.wr8 addr v) = true) :
    wr8Row addr v = .wr8 addr v := by
  have hnone : decodeAddr addr = none := by simpa [WellFormed, noByteRow] using h
  rw [wr8Row, hnone]

/-- No halfword row matches: the address is undecoded, or odd in a register (R83, R111). -/
theorem noHalfRow_iff (addr : BitVec 32) :
    noHalfRow addr = true ↔ decodeAddr addr = none ∨ ∃ r, decodeAddr addr = some (.reg r .hi) := by
  unfold noHalfRow
  split <;> simp_all

theorem rd16Row_of_wellFormed {addr : BitVec 32} (h : WellFormed (.rd16 addr) = true) :
    rd16Row addr = .rd16 addr := by
  obtain hdec | ⟨r, hdec⟩ := (noHalfRow_iff addr).1 h <;> rw [rd16Row, hdec]

theorem wr16Row_of_wellFormed {addr : BitVec 32} {v : Half} (h : WellFormed (.wr16 addr v) = true) :
    wr16Row addr v = .wr16 addr v := by
  obtain hdec | ⟨r, hdec⟩ := (noHalfRow_iff addr).1 h <;> rw [wr16Row, hdec]

/-! ## The two round trips -/

theorem ofCode_code (p : Phase) : Phase.ofCode p.code = p := by cases p <;> rfl

theorem decode_encode_eventOf (p : Phase) (late : BitVec 32) :
    decode (encode (eventOf p late)) = .ok (eventOf p late) := by
  cases p <;> rfl

/-- Settles O3: by the forms of an instruction; each row stands at its own address, a generic row where no row does. -/
theorem decodingAnEncodingGivesTheInstruction : Obligations.DecodingAnEncodingGivesTheInstruction := by
  intro i
  induction i using instr_forms with
  | adv delta => exact fun hwf => decode_of_spells (.adv delta (of_decide_eq_true hwf))
  | rst => exact fun _ => decode_of_spells .rst
  | rd8 addr => exact fun hwf => (decode_rd8 addr).trans (congrArg _ (rd8Row_of_wellFormed hwf))
  | rd16 addr => exact fun hwf => (decode_rd16 addr).trans (congrArg _ (rd16Row_of_wellFormed hwf))
  | wr8 addr v => exact fun hwf => (decode_wr8 addr v).trans (congrArg _ (wr8Row_of_wellFormed hwf))
  | wr16 addr v => exact fun hwf => (decode_wr16 addr v).trans (congrArg _ (wr16Row_of_wellFormed hwf))
  | rd8At r lane => exact fun _ => by rw [encode_rd8At, decode_rd8, (rowsOf_reg r lane).1]
  | rd16At r => exact fun _ => by rw [encode_rd16At, decode_rd16, (rowsOf_reg r .lo).2.2.1]
  | wr8At r lane v => exact fun _ => by rw [encode_wr8At, decode_wr8, (rowsOf_reg r lane).2.1]
  | wr16At r v => exact fun _ => by rw [encode_wr16At, decode_wr16, (rowsOf_reg r .lo).2.2.2]
  | rd8Mem sp off h => exact fun _ => by rw [encode_rd8Mem sp off h, decode_rd8, (rowsOf_mem sp off h).1]
  | rd16Mem sp off h => exact fun _ => by rw [encode_rd16Mem sp off h, decode_rd16, (rowsOf_mem sp off h).2.2.1]
  | wr8Mem sp off v h => exact fun _ => by rw [encode_wr8Mem sp off v h, decode_wr8, (rowsOf_mem sp off h).2.1]
  | wr16Mem sp off v h => exact fun _ => by rw [encode_wr16Mem sp off v h, decode_wr16, (rowsOf_mem sp off h).2.2.2]
  | event p late => exact fun _ => decode_encode_eventOf p late

theorem Spells.word {w : Word64} {i : Instr} (h : Spells w i) : WellFormed i = true ∧ encode i = .command w := by
  cases h with
  | adv delta h => exact ⟨decide_eq_true h, rfl⟩
  | rst => exact ⟨rfl, rfl⟩
  | rd8 addr => exact rd8Row_word addr
  | rd16 addr => exact rd16Row_word addr
  | wr8 addr v => exact wr8Row_word addr v
  | wr16 addr v => exact wr16Row_word addr v

/-- Settles O4: what a word decodes to is what it spells, and that is encoded as the word. -/
theorem encodingADecodedWordGivesTheWord : Obligations.EncodingADecodedWordGivesTheWord :=
  fun _ _ h => (spells_of_decode h).word

/-- Settles O2: the decoder evaluates on each word. -/
theorem wordsFromTheSpecDecode : Obligations.WordsFromTheSpecDecode := by
  unfold Obligations.WordsFromTheSpecDecode
  decide

/-! ## The refused words (R150) -/

theorem wordAddr_zero_data_eq_zero (w : Word64) :
    w.extractLsb' 0 60 = 0 ↔ wordAddr w = 0 ∧ wordZero w = 0 ∧ wordData w = 0 :=
  (extractLsb'_eq_zero_iff w 0 28 32).trans (and_congr_right fun _ => extractLsb'_eq_zero_iff w 0 16 12)

theorem wordZero_data_eq_zero (w : Word64) : w.extractLsb' 0 28 = 0 ↔ wordZero w = 0 ∧ wordData w = 0 :=
  extractLsb'_eq_zero_iff w 0 16 12

theorem wordZero_dataHigh_eq_zero (w : Word64) :
    w.extractLsb' 8 20 = 0 ↔ wordZero w = 0 ∧ (wordData w).extractLsb' 8 8 = 0 := by
  rw [wordData, BitVec.extractLsb'_extractLsb'_of_le (by decide)]
  exact extractLsb'_eq_zero_iff w 8 8 12

theorem exists_ite_eq_error {α ε : Type} {c : Prop} [Decidable c] (x : Except ε α) (e : ε) :
    (∃ why, (if c then x else .error e) = .error why) ↔ ¬c ∨ ∃ why, x = .error why := by
  by_cases hc : c <;> simp [hc]

/-- Settles O5: opcode by opcode, the words refused are those that fail a test of the decoder. -/
theorem refusedWords : Obligations.RefusedWords := by
  intro w
  show (∃ why, decodeCommand w = .error why) ↔ _
  have hop : (w.extractLsb' 60 4).toNat = (wordOp w).toNat := rfl
  have hzero : w.extractLsb' 32 28 = wordAdvZero w := rfl
  have hdelta : w.extractLsb' 0 32 = wordDelta w := rfl
  have hdata : w.extractLsb' 16 12 = wordZero w := rfl
  simp only [ne_eq, wordAddr_zero_data_eq_zero, wordZero_data_eq_zero, wordZero_dataHigh_eq_zero, hop, hzero, hdelta,
    hdata]
  unfold decodeCommand
  split
  case h_1 hop =>
    simp only [hop, exists_ite_eq_error]
    simp [Config.maxDelta]
  case h_2 hop => simp [hop, exists_ite_eq_error]
  case h_3 hop => simp [hop, exists_ite_eq_error]
  case h_4 hop => simp [hop, exists_ite_eq_error]
  case h_5 hop => simp [hop, exists_ite_eq_error]
  case h_6 hop => simp [hop, exists_ite_eq_error]
  case h_7 =>
    have hlarge : 6 ≤ (wordOp w).toNat := by
      by_contra hlt
      interval_cases h : (wordOp w).toNat <;> contradiction
    simp [hlarge]

end Sys2Proof.Machine.DecodeProofs
end

section
/-! PROOFS. The scanline renderer as a whole: the object row (R340 to R350), the fetches (R97), the row of the frame
(R399). -/

namespace Sys2Proof.Machine.RenderProofs

open Sys2Proof Sys2Proof.Machine Sys2Proof.Machine.Claims
open Sys2Proof.Machine.ComposeProofs (compose_eq_frontColor)

/-! ## The object row (R340, R342, R343, R350) -/

theorem skipped_iff (o : ObjAttr) :
    o.skipped = true ↔ (o.affine = false ∧ o.bit9 = true) ∨ o.mode = 3 ∨ o.shape = 3 := by
  simp [ObjAttr.skipped, or_assoc]

section Turn
variable {s : State} {y x n : Nat} {o : ObjAttr} (d : ObjSlot)

theorem objStep_passed (ho : objAttr s n = some o) (hpass : o.skipped = true ∨ o.covers y x = false) :
    objStep s y x d n = some d := by
  have htest : (o.skipped || !o.covers y x) = true := by simpa using hpass
  simp only [objStep, ho, Option.bind_eq_bind, Option.bind_some, htest]
  rfl

theorem objStep_shown (ho : objAttr s n = some o) (hskip : o.skipped = false) (hcovers : o.covers y x = true)
    {c : Slot} (hc : objColorAt s o y x = some c) :
    objStep s y x d n = some (match c with | none => d | some col => d.merge o.mode o.priority col) := by
  have htest : (o.skipped || !o.covers y x) = false := by simp [hskip, hcovers]
  simp only [objStep, ho, Option.bind_eq_bind, Option.bind_some, htest, hc]
  cases c <;> rfl

end Turn

theorem merge_window (d : ObjSlot) (prio : BitVec 2) (c : Color) : d.merge 2 prio c = { d with window := true } := rfl

theorem merge_of_ne_window (d : ObjSlot) {mode : BitVec 2} (prio : BitVec 2) (c : Color) (hmode : mode ≠ 2) :
    d.merge mode prio c =
      if d.color = none ∨ prio.toNat < d.priority.toNat then ⟨some c, prio, decide (mode = 1), d.window⟩ else d :=
  if_neg hmode

theorem objSlot_of_disabled {s : State} (h : s.dispcnt.enable.getLsbD 4 = false) (y x : Nat) :
    objSlot s y x = some ObjSlot.empty := if_neg (ne_true_of_eq_false h)

theorem objSlot_of_enabled {s : State} (h : s.dispcnt.enable.getLsbD 4 = true) (y x : Nat) :
    objSlot s y x = (List.range 128).foldlM (objStep s y x) ObjSlot.empty := if_pos h

/-- Settles O55: the turns are the branches of `objStep`, the row is its fold. -/
theorem objectsMergeByPriority : Obligations.ObjectsMergeByPriority := by
  refine ⟨fun s y x h => objSlot_of_disabled h y x, fun s y x n d o ho hpass => ?passed, merge_window,
    fun d mode prio c hmode => ?merged, fun s y x n d o ho hen hmode hshape hcovers => ?shown, fun s y x h => ?row⟩
  case passed =>
    refine objStep_passed d ho ?_
    rwa [skipped_iff, or_assoc, or_assoc]
  case merged =>
    rw [merge_of_ne_window d prio c hmode]
    exact ⟨fun htakes => if_pos htakes, fun hcolor hprio => if_neg (not_or.2 ⟨hcolor, Nat.not_lt.2 hprio⟩)⟩
  case shown =>
    have hskip : o.skipped = false := by
      rw [← Bool.not_eq_true, skipped_iff]
      exact not_or.2 ⟨hen, not_or.2 ⟨hmode, hshape⟩⟩
    exact ⟨fun c => objStep_shown d ho hskip hcovers, objStep_shown d ho hskip hcovers⟩
  case row =>
    rw [objSlot_of_enabled h]
    exact objFold_row s y x 128 le_rfl ObjSlot.empty

/-! ## Every fetch is inside its array (R97) -/

theorem objSlot_some (s : State) (y x : Nat) : ∃ d, objSlot s y x = some d := by
  unfold objSlot
  split
  · exact objFold_some s y x _ (fun n hn => List.mem_range.1 hn) _
  · exact ⟨_, rfl⟩

theorem compose_some (s : State) {y x : Nat} (hy : y < 160) (hx : x < 240) : ∃ c, compose s y x = some c := by
  choose c hc using fun n => bgSlot_some s y n x hy hx
  obtain ⟨d, hd⟩ := objSlot_some s y x
  exact ⟨_, compose_eq_frontColor hc hd⟩

/-- Settles O51: layers and the object row are total on a visible pixel, in every mode. -/
theorem rendererStaysInsideItsArrays : Obligations.RendererStaysInsideItsArrays :=
  fun s _ _ hy hx _ => compose_some s hy hx

/-! ## The row of the frame (R399, R302, R381) -/

theorem mapM_eq_some_map {α β : Type} {f : α → Option β} {g : α → β} {l : List α} (h : ∀ x ∈ l, f x = some (g x)) :
    l.mapM f = some (l.map g) := by
  induction l with
  | nil => rfl
  | cons a l ih => simp [h a List.mem_cons_self, ih fun x hx => h x (List.mem_cons_of_mem a hx)]

/-- The colour of a visible pixel, which `compose` always gives (R97). -/
def pixelColor (s : State) (y x : Nat) : Color := (compose s y x).getD 0

theorem compose_eq_pixelColor (s : State) {y x : Nat} (hy : y < 160) (hx : x < 240) :
    compose s y x = some (pixelColor s y x) := by
  obtain ⟨c, hc⟩ := compose_some s hy hx
  rw [pixelColor, hc]
  rfl

theorem renderRow_eq (s : State) {y : Nat} (hy : y < 160) :
    renderRow s y = some ((List.range 240).map fun x => convertColor s.params.pixelFormat (pixelColor s y x)) := by
  refine mapM_eq_some_map fun x hx => ?_
  rw [renderPixel, compose_eq_pixelColor s hy (List.mem_range.1 hx)]
  rfl

/-- A pixel of the row that a visible line writes: white, unspecified or composed (R381, R302, R399). -/
def rowPixel (s : State) : Nat → Pixel :=
  if s.dispcnt.forcedBlank then fun _ => convertColor s.params.pixelFormat 0x7FFF
  else if 6 ≤ s.dispcnt.mode.toNat then fun x => Config.freePixel (s.draws + x)
  else fun x => convertColor s.params.pixelFormat (pixelColor s s.ppu.vcount.toNat x)

/-- How many free pixels a visible line draws (R302). -/
def rowDraws (s : State) : Nat := if s.dispcnt.forcedBlank then 0 else if 6 ≤ s.dispcnt.mode.toNat then 240 else 0

theorem renderScanline_of_invisible {s : State} (h : 160 ≤ s.ppu.vcount.toNat) :
    renderScanline s = raiseFault .index s := if_pos h

theorem renderScanline_of_visible {s : State} (h : s.ppu.vcount.toNat < 160) :
    renderScanline s =
      { s with
        frame := setKey s.frame s.ppu.vcount.toNat ((List.range 240).map (rowPixel s))
        draws := s.draws + rowDraws s } := by
  have hmode : (s.dispcnt.mode = 6 ∨ s.dispcnt.mode = 7) ↔ 6 ≤ s.dispcnt.mode.toNat := by bv_omega
  have hvisible : ¬s.ppu.vcount.toNat ≥ Config.nVisible := Nat.not_le.2 h
  simp only [renderScanline, if_neg hvisible, hmode, renderRow_eq s h, rowPixel, rowDraws]
  cases s.dispcnt.forcedBlank with
  | true =>
    simp only [if_true, List.map_const', List.length_range]
    rfl
  | false =>
    simp only [Bool.false_eq_true, if_false]
    split
    · rfl
    · rfl

/-- On a visible line the renderer records no fault: every fetch is in bounds (R97, R399). -/
theorem renderScanline_fault_of_visible {s : State} (h : s.ppu.vcount.toNat < 160) :
    (renderScanline s).fault = s.fault := by
  rw [renderScanline_of_visible h]

/-- Settles O50: a visible line sets one key of the frame, to the row of `rowPixel`. -/
theorem renderScanlineWritesItsRow : Obligations.RenderScanlineWritesItsRow := by
  intro s hf y t
  refine ⟨fun h => (renderScanline_of_invisible h).trans (raiseFault_of_none _ _ hf), fun h => ?visible⟩
  case visible =>
    have ht : t = _ := renderScanline_of_visible h
    have hpixel {x : Nat} (hx : x < 240) : t.frame.pixel y x = some (rowPixel s x) := by
      rw [ht, frame_pixel_setKey_self, List.getElem?_map, List.getElem?_range hx]
      rfl
    have hdraws : t.draws = s.draws + rowDraws s := by rw [ht]
    refine ⟨by rw [ht], fun y' x hy' => ?_, fun x hx => ?_⟩
    · rw [ht]
      exact frame_pixel_setKey_other _ _ _ _ _ hy'
    · rw [hpixel hx, hdraws, rowPixel, rowDraws]
      refine ⟨fun hblank => ?_, fun hblank hmode => ?_, fun hblank hmode => ?_⟩
      · simp [hblank]
      · simp [hblank, hmode]
      · simp [hblank, Nat.not_le.2 hmode, compose_eq_pixelColor s h hx, y]

end Sys2Proof.Machine.RenderProofs
end

section
/-! PROOFS. Steps and the sequencer: the Scheduler's Add (R172), ADV and its loop (R174, R175), the timeline of the frame
(R190, R206) and small advances (R500). -/

namespace Sys2Proof.Machine.SequencerProofs

open Sys2Proof Sys2Proof.Machine Sys2Proof.Machine.Claims
open Sys2Proof.Machine.DecodeProofs (spells_of_decode ofCode_code)
open Sys2Proof.Machine.RenderProofs (renderScanline_fault_of_visible)

/-! ## From one phase to the next (R190, R206) -/

/-- The phase entered occurs on its line and ends its duration after the one that ended. -/
theorem successor_onTimeline {p q : Phase} {v w : BitVec 8} (hp : phaseLine p v.toNat = true)
    (hs : successor p v = some (q, w)) :
    phaseLine q w.toNat = true ∧ w.toNat ≤ 227 ∧
      (phaseEnd p v.toNat + phaseDur q) % Config.frameCycles = phaseEnd q w.toNat % Config.frameCycles := by
  cases p with
  | scanline =>
    cases hs
    have hline : v.toNat < 160 := of_decide_eq_true hp
    exact ⟨hp, by omega, rfl⟩
  | hblankSearch | vblankScanline =>
    cases hs
    simp only [phaseLine, decide_eq_true_eq, Bool.and_eq_true] at hp
    simp only [phaseLine, phaseEnd, phaseDur, Config.frameCycles, decide_eq_true_eq, Bool.and_eq_true]
    omega
  | hblank =>
    simp only [phaseLine, decide_eq_true_eq] at hp
    have hw : (v + 1).toNat = v.toNat + 1 := by bv_omega
    have h160 : v + 1 = 160 ↔ v.toNat + 1 = 160 := by bv_omega
    simp only [successor, h160, Option.some.injEq, Prod.mk.injEq] at hs
    obtain ⟨rfl, rfl⟩ := hs
    split
    · simp only [phaseLine, phaseEnd, phaseDur, Config.frameCycles, decide_eq_true_eq, Bool.and_eq_true]
      omega
    · simp only [phaseLine, phaseEnd, phaseDur, Config.frameCycles, decide_eq_true_eq]
      omega
  | vblankHblank =>
    simp only [phaseLine, decide_eq_true_eq, Bool.and_eq_true] at hp
    by_cases h227 : v = 227
    · simp only [successor, if_pos h227, Option.some.injEq, Prod.mk.injEq] at hs
      obtain ⟨rfl, rfl⟩ := hs
      subst h227
      decide
    · have hw : (v + 1).toNat = v.toNat + 1 := by bv_omega
      have h227' : v.toNat ≠ 227 := fun h => h227 (BitVec.eq_of_toNat_eq h)
      simp only [successor, if_neg h227, Option.some.injEq, Prod.mk.injEq] at hs
      obtain ⟨rfl, rfl⟩ := hs
      simp only [phaseLine, phaseEnd, phaseDur, Config.frameCycles, decide_eq_true_eq, Bool.and_eq_true]
      omega
  | code5 | code6 | code7 => cases hs

theorem successor_isSome {p : Phase} {line : Nat} (hp : phaseLine p line = true) (v : BitVec 8) :
    successor p v ≠ none := by
  cases p with
  | code5 | code6 | code7 => cases hp
  | _ => exact Option.some_ne_none _

theorem phaseDur_ge_46 {p : Phase} {line : Nat} (hp : phaseLine p line = true) : 46 ≤ phaseDur p := by
  cases p with
  | code5 | code6 | code7 => cases hp
  | _ => decide

/-- E_SCANLINE on a visible line records no `F_INDEX` (R97, R192). -/
theorem dispatchEvent_scanline_fault {late : Int} {s : State} (hf : s.fault = none) (hline : s.ppu.vcount.toNat < 160) :
    (dispatchEvent .scanline late s).fault ≠ some .index := by
  show (onScanlineEnd late s).fault ≠ _
  by_cases h : late ≤ 46
  · rw [onScanlineEnd_inTime late s h hf, nextPhase_inTime _ _ _ h, renderScanline_fault_of_visible (by simpa [raiseHblank])]
    simp [raiseHblank, hf]
  · rw [onScanlineEnd_tooLate late s (not_le.1 h) hf]
    simp

/-- What the event at the end of a phase does to the sequencer on a line of that phase: in time it enters the next phase
and arms its end, too late it records `F_NEGATIVE_DELAY`. -/
theorem dispatchEvent_onTimeline {p : Phase} {late : Int} {s : State} (hf : s.fault = none)
    (hp : phaseLine p s.ppu.vcount.toNat = true) :
    let t := dispatchEvent p late s
    ∃ q w, successor p s.ppu.vcount = some (q, w) ∧
      ((late ≤ phaseDur q ∧ t.ppu = ⟨q, w⟩ ∧ Armed late s t q ∧ t.fault = none) ∨
       (phaseDur q < late ∧ t.fault = some .negativeDelay ∧ (t.ppu.vcount = s.ppu.vcount ∨ t.ppu.vcount = w))) := by
  intro t
  obtain ⟨q, w, hs, hlate, hppu, harm, hfault⟩ | ⟨q, w, hs, hlate, hfault, hline⟩ | ⟨hs, -⟩ :=
    dispatchEvent_cases p late s hf
  · refine ⟨q, w, hs, .inl ⟨hlate, hppu, harm, hfault.resolve_right ?_⟩⟩
    rintro ⟨hindex, rfl⟩
    exact dispatchEvent_scanline_fault hf (of_decide_eq_true hp) hindex
  · exact ⟨q, w, hs, .inr ⟨hlate, hfault, hline⟩⟩
  · exact absurd hs (successor_isSome hp _)

/-! ## The loop of due events (R174) -/

/-- One turn of the loop: the due head is taken out and handled. -/
def fired (s : State) (e : Event) : State := dispatchEvent e.tag (e.late s.sched.now) (popEvent s)

theorem popEvent_eq {s : State} {e : Event} {rest : List Event} (hq : s.sched.queue = e :: rest) :
    popEvent s = { s with sched := { s.sched with queue := rest } } := by
  rw [popEvent, hq, List.tail_cons]

/-- What every turn of the loop keeps holds where the loop ends (R174). -/
theorem firesDue_invariant {P : State → Prop}
    (turn : ∀ (s : State) (e : Event) (rest : List Event), s.fault = none → s.sched.queue = e :: rest →
      e.fireCycle.toNat ≤ s.sched.now.toNat → P s → P (fired s e))
    {s t : State} (h : FiresDue s t) : P s → P t := by
  induction h with
  | ended s h => exact id
  | fires s t e rest hf hq hdue _ ih =>
    intro hs
    have hturn := turn s e rest hf hq hdue hs
    rw [fired, popEvent_eq hq] at hturn
    exact ih hturn

/-- The one pending event of the timeline: its tag is the phase, its line is legal for it. -/
structure OnLine (s : State) (e : Event) : Prop where
  queue : s.sched.queue = [e]
  tag : e.tag = s.ppu.phase
  line : phaseLine s.ppu.phase s.ppu.vcount.toNat = true

/-- The event fires where the timeline of the frame puts it (R206). -/
def AtPhaseEnd (s : State) (e : Event) : Prop :=
  e.fireCycle.toNat % Config.frameCycles = phaseEnd s.ppu.phase s.ppu.vcount.toNat % Config.frameCycles

/-- One turn of the loop on the timeline: in time it arms the end of the next phase, a duration after the event's own
cycle (modulo 2^64, log entry 8); too late it records `F_NEGATIVE_DELAY`. -/
theorem fired_onTimeline {s : State} {e : Event} (h : OnLine s e) (hf : s.fault = none) :
    ∃ q w, phaseLine q w.toNat = true ∧ w.toNat ≤ 227 ∧
      (phaseEnd s.ppu.phase s.ppu.vcount.toNat + phaseDur q) % Config.frameCycles =
        phaseEnd q w.toNat % Config.frameCycles ∧
      ((s.sched.now.toNat ≤ e.fireCycle.toNat + phaseDur q ∧ (fired s e).fault = none ∧ (fired s e).ppu = ⟨q, w⟩ ∧
          (fired s e).sched.now = s.sched.now ∧
          (fired s e).sched.queue = [⟨e.fireCycle + BitVec.ofNat 64 (phaseDur q), s.sched.nextSeq, q⟩]) ∨
        (e.fireCycle.toNat + phaseDur q < s.sched.now.toNat ∧ (fired s e).fault = some .negativeDelay ∧
          ((fired s e).ppu.vcount = s.ppu.vcount ∨ (fired s e).ppu.vcount = w))) := by
  obtain ⟨hq, htag, hline⟩ := h
  obtain ⟨q, w, hs, hcase⟩ := dispatchEvent_onTimeline (late := e.late s.sched.now) (s := popEvent s) hf hline
  rw [← htag, ← fired] at hcase
  obtain ⟨hqline, hw, hend⟩ := successor_onTimeline hline hs
  refine ⟨q, w, hqline, hw, hend, ?_⟩
  obtain ⟨hlate, hppu, harm, hfault⟩ | ⟨hlate, hfault, hvcount⟩ := hcase
  · have hfire : firedAt (e.late s.sched.now) (popEvent s) = e.fireCycle := firedAt_late e s
    have hrest : (popEvent s).sched.queue = [] := by rw [popEvent_eq hq]
    rw [Armed, hfire, hrest] at harm
    rw [Event.late] at hlate
    exact .inl ⟨by omega, hfault, hppu, by rw [harm]; rfl, by rw [harm]; rfl⟩
  · rw [Event.late] at hlate
    exact .inr ⟨by omega, hfault, hvcount⟩

/-! ## The invariant of the sequencer over the loop (R24, R25, R206, R442) -/

/-- The sequencer inside the loop: as between commands, but the event may be due; past the end of the cycle counter its
deadline has wrapped (log entry 8), and it is then later than every phase is long. -/
structure LoopInv (s : State) : Prop where
  line : s.ppu.vcount.toNat ≤ 227
  pending : s.fault = none → ∃ e, OnLine s e ∧ (AtPhaseEnd s e ∨ e.fireCycle.toNat + 1006 < s.sched.now.toNat)
  fault : s.fault = none ∨ s.fault = some .negativeDelay ∨ s.fault = some .misaligned

theorem LoopInv.fired {s : State} {e : Event} {rest : List Event} (hf : s.fault = none)
    (hq : s.sched.queue = e :: rest) (hdue : e.fireCycle.toNat ≤ s.sched.now.toNat) (h : LoopInv s) :
    LoopInv (fired s e) := by
  obtain ⟨e', hon, hwhen⟩ := h.pending hf
  obtain ⟨rfl, rfl⟩ : e = e' ∧ rest = [] := by simpa [hq] using hon.queue
  obtain ⟨q, w, hqline, hw, hend, ⟨hlate, hfault, hppu, hnow, hqueue⟩ | ⟨-, hfault, hvcount⟩⟩ :=
    fired_onTimeline hon hf
  · have hdur := phaseDur_le q
    refine ⟨by rwa [hppu], fun _ => ⟨_, ⟨hqueue, by rw [hppu], by rwa [hppu]⟩, ?_⟩, .inl hfault⟩
    rw [AtPhaseEnd, hppu, hnow, ← hend]
    have hfire := e.fireCycle.isLt
    have hnow' := s.sched.now.isLt
    have hwhen : e.fireCycle.toNat % Config.frameCycles = _ := hwhen.resolve_right (by omega)
    by_cases hwrap : e.fireCycle.toNat + phaseDur q < 2 ^ 64
    · left
      rw [BitVec.toNat_add, BitVec.toNat_ofNat, Nat.add_mod_mod, Nat.mod_eq_of_lt hwrap, Nat.add_mod, hwhen, ← Nat.add_mod]
    · right
      rw [BitVec.toNat_add, BitVec.toNat_ofNat]
      omega
  · refine ⟨?_, fun hnone => ?_, .inr (.inl hfault)⟩
    · obtain hv | hv := hvcount
      · exact hv ▸ h.line
      · exact hv ▸ hw
    · rw [hfault] at hnone
      cases hnone

/-- Where nothing is due the loop's invariant is the one between commands. -/
theorem LoopInv.sequencerInv {s : State} (h : LoopInv s) (hsettled : s.fault ≠ none ∨ NothingDue s) : SequencerInv s := by
  refine ⟨h.line, fun hf => ?_, h.fault⟩
  obtain ⟨e, ⟨hq, htag, hphase⟩, hend⟩ := h.pending hf
  have hnotdue : s.sched.now.toNat < e.fireCycle.toNat := hsettled.resolve_left (not_not.2 hf) e [] hq
  exact ⟨hphase, e, hq, htag, hnotdue, hend.resolve_right (by omega)⟩

/-- Time and timers do not touch what the invariant speaks of, except that the event may come due. -/
theorem LoopInv.stepped {s t : State} (h : SequencerInv s) (hppu : t.ppu = s.ppu)
    (hqueue : t.sched.queue = s.sched.queue) (hfault : t.fault = s.fault) : LoopInv t := by
  obtain ⟨hline, hpending, hfaults⟩ := h
  refine ⟨hppu ▸ hline, fun hf => ?_, hfault ▸ hfaults⟩
  obtain ⟨hphase, e, hq, htag, -, hend⟩ := hpending (hfault ▸ hf)
  exact ⟨e, ⟨hqueue ▸ hq, hppu ▸ htag, hppu ▸ hphase⟩, .inl (by rwa [AtPhaseEnd, hppu])⟩

theorem timerRun_frame (n : Nat) (s : State) :
    timerRun n s = { s with tm := (timerRun n s).tm, out := (timerRun n s).out } := (TimerWrites.run n s).2

/-- ADV keeps the timeline. -/
theorem sequencerInv_advance {s : State} (h : SequencerInv s) (n : Nat) :
    SequencerInv (advance (timerRun n (addCycles n s))) := by
  have hstepped : LoopInv (timerRun n (addCycles n s)) := by
    refine .stepped h ?_ ?_ ?_ <;> rw [timerRun_frame] <;> rfl
  have hloop := firesDue_invariant (P := LoopInv) (fun s e rest => LoopInv.fired) (advance_firesDue _) hstepped
  exact hloop.sequencerInv (advance_settles _)

/-! ## The other instructions, and a step (R17, R440) -/

theorem sequencerInv_congr {s t : State} (h : SequencerInv s) (hsched : t.sched = s.sched) (hppu : t.ppu = s.ppu)
    (hfault : t.fault = s.fault ∨ (s.fault = none ∧ t.fault = some .misaligned)) : SequencerInv t := by
  obtain ⟨hline, hpending, hfaults⟩ := h
  have hframe (hf : s.fault = none) : phaseLine t.ppu.phase t.ppu.vcount.toNat = true ∧ ∃ e, PendingEvent t e := by
    obtain ⟨hphase, e, he⟩ := hpending hf
    exact ⟨hppu ▸ hphase, e, by rwa [PendingEvent, hppu, hsched]⟩
  obtain hsame | ⟨-, hmisaligned⟩ := hfault
  · exact ⟨hppu ▸ hline, fun hf => hframe (hsame ▸ hf), hsame ▸ hfaults⟩
  · refine ⟨hppu ▸ hline, fun hf => ?_, .inr (.inr hmisaligned)⟩
    rw [hmisaligned] at hf
    cases hf

theorem sequencerInv_reset : SequencerInv State.reset :=
  ⟨by decide, fun _ => ⟨by decide, _, rfl, rfl, by decide, by decide⟩, .inl rfl⟩

/-- An event's tag is never spelled by a command word (R110, R111). -/
theorem decode_command_ne_eventOf (w : Word64) (p : Phase) (late : BitVec 32) :
    decode (.command w) ≠ .ok (eventOf p late) := by
  intro h
  obtain ⟨-, hword⟩ := (spells_of_decode h).word
  cases p <;> cases hword

theorem sequencerInv_exec {w : Word64} {i : Instr} (hw : decode (.command w) = .ok i) {s t : State}
    (h : SequencerInv s) (he : exec i s = .next t) : SequencerInv t := by
  obtain ⟨hsched, hppu, hfault, -⟩ | rfl | ⟨d, rfl⟩ | ⟨p, late, rfl⟩ := exec_cases i s t he
  · exact sequencerInv_congr h hsched hppu hfault
  · cases he
    exact sequencerInv_congr sequencerInv_reset rfl rfl (.inl rfl)
  · obtain ⟨-, rfl⟩ | ⟨-, -, rfl⟩ := exec_adv_cases d s t he
    · exact h
    · exact sequencerInv_advance h d.toNat
  · exact absurd hw (decode_command_ne_eventOf w p late)

theorem dueEvent_of_fault {s : State} (h : s.fault ≠ none) : dueEvent s = none := if_pos (faulted_of_some s h)

theorem dueEvent_of_nothingDue {s : State} (h : NothingDue s) : dueEvent s = none := by
  unfold dueEvent
  split
  · rfl
  · split
    · rfl
    · rename_i e rest hq
      exact if_neg (by simpa [Event.due] using h e rest hq)

theorem dueEvent_of_due {s : State} {e : Event} {rest : List Event} (hf : s.fault = none)
    (hq : s.sched.queue = e :: rest) (hdue : e.fireCycle.toNat ≤ s.sched.now.toNat) : dueEvent s = some e := by
  simp [dueEvent, faulted_of_none s hf, hq, Event.due, hdue]

theorem step_command {s : State} {w : Word64} {rest : List Word64} (h : s.input = w :: rest) :
    step s = runFetched (.command w) { s with input := rest } := by
  have htake : takeCommand s = { s with input := rest } := by rw [takeCommand, h, List.tail_cons]
  simp only [step, fetch, h, htake]

theorem step_idle {s : State} (h : s.input = []) (hdue : dueEvent s = none) : step s = .next s := by
  simp only [step, fetch, h, hdue]

theorem step_event {s : State} {e : Event} (h : s.input = []) (hdue : dueEvent s = some e) :
    step s = exec (eventOf e.tag (BitVec.ofInt 32 (e.late s.sched.now))) (popEvent s) := by
  simp only [step, fetch, h, hdue, runFetched, decode, ofCode_code]

theorem dueEvent_of_sequencerInv {s : State} (h : SequencerInv s) : dueEvent s = none := by
  by_cases hf : s.fault = none
  · refine dueEvent_of_nothingDue fun e rest hq => ?_
    obtain ⟨-, e', hq', -, hnotdue, -⟩ := h.2.1 hf
    obtain ⟨rfl, -⟩ := List.cons.inj (hq.symm.trans hq')
    exact hnotdue
  · exact dueEvent_of_fault hf

/-- Settles O17: no event is due between commands, a bus command leaves the sequencer, and ADV runs the loop, whose
invariant is `LoopInv`. -/
theorem sequencerStaysOnTheTimeline : Obligations.SequencerStaysOnTheTimeline := by
  intro s t h hstep
  cases hinput : s.input with
  | nil =>
    rw [step_idle hinput (dueEvent_of_sequencerInv h)] at hstep
    cases hstep
    exact h
  | cons w rest =>
    rw [step_command hinput, runFetched] at hstep
    split at hstep
    · rename_i i hw
      have htaken : SequencerInv { s with input := rest } := sequencerInv_congr h rfl rfl (.inl rfl)
      exact sequencerInv_exec hw htaken hstep
    · cases hstep

/-- Settles O1: the three ways to fetch, a command, a due event, nothing. -/
theorem stepRunsTheDecodedInstruction : Obligations.StepRunsTheDecodedInstruction := by
  refine ⟨fun s w rest i hinput hw => ?command, fun s w rest why hinput hw => ?refusal,
    fun s e rest hinput hf hq hdue => ?event, fun s hinput hf => step_idle hinput (dueEvent_of_fault hf),
    fun s hinput hdue => step_idle hinput (dueEvent_of_nothingDue hdue), fun s w hw => rfl⟩
  case command => rw [step_command hinput, runFetched, hw]
  case refusal => rw [step_command hinput, runFetched, hw]
  case event => rw [step_event hinput (dueEvent_of_due hf hq hdue), popEvent_eq hq, Event.late]

/-! ## Small advances (R500) -/

/-- In the loop of an ADV that keeps to the bound: the pending event is at most 46 cycles late, which is less than any phase
is long, and the end of the cycle counter is far. -/
structure Punctual (s : State) : Prop where
  unfaulted : s.fault = none
  pending : ∃ e, OnLine s e ∧ s.sched.now.toNat ≤ e.fireCycle.toNat + 46
  room : s.sched.now.toNat + 1006 < 2 ^ 64

theorem Punctual.fired {s : State} {e : Event} {rest : List Event} (hf : s.fault = none)
    (hq : s.sched.queue = e :: rest) (hdue : e.fireCycle.toNat ≤ s.sched.now.toNat) (h : Punctual s) :
    Punctual (fired s e) := by
  obtain ⟨-, ⟨e', hon, hlate⟩, hroom⟩ := h
  obtain ⟨rfl, rfl⟩ : e = e' ∧ rest = [] := by simpa [hq] using hon.queue
  obtain ⟨q, w, hqline, -, -, hturn⟩ := fired_onTimeline hon hf
  have hshort := phaseDur_ge_46 hqline
  have hlong := phaseDur_le q
  obtain ⟨-, hfault, hppu, hnow, hqueue⟩ | ⟨htooLate, -⟩ := hturn
  · refine ⟨hfault, ⟨_, ⟨hqueue, by rw [hppu], by rwa [hppu]⟩, ?_⟩, by rwa [hnow]⟩
    rw [hnow, BitVec.toNat_add, BitVec.toNat_ofNat, Nat.add_mod_mod, Nat.mod_eq_of_lt (by omega)]
    omega
  · omega

theorem exec_adv_of_unfaulted {s : State} {d : BitVec 32} (hbound : d.toNat ≤ Config.maxDelta) (hf : s.fault = none)
    (hend : s.sched.now.toNat + d.toNat < 2 ^ 64) :
    exec (.adv d) s = .next (advance (timerRun d.toNat (addCycles d.toNat s))) := by
  have hunfaulted : ¬s.faulted = true := fun h => (faulted_eq s).1 h hf
  simp only [exec, execAdv]
  rw [if_neg (Nat.not_lt.2 hbound), if_neg hunfaulted, if_neg (Nat.not_le.2 hend)]

theorem addCycles_now {s : State} {n : Nat} (hend : s.sched.now.toNat + n < 2 ^ 64) :
    (addCycles n s).sched.now.toNat = s.sched.now.toNat + n := by
  show (s.sched.now + BitVec.ofNat 64 n).toNat = _
  rw [BitVec.toNat_add, BitVec.toNat_ofNat, Nat.add_mod_mod, Nat.mod_eq_of_lt hend]

theorem Punctual.stepped {s : State} (h : SequencerInv s) (hf : s.fault = none) {n : Nat} (hn : n ≤ 47)
    (hroom : s.sched.now.toNat + n + 1006 < 2 ^ 64) : Punctual (timerRun n (addCycles n s)) := by
  obtain ⟨-, hpending, -⟩ := h
  obtain ⟨hphase, e, hq, htag, hnotdue, -⟩ := hpending hf
  have hnow := addCycles_now (s := s) (n := n) (by omega)
  rw [timerRun_frame]
  refine ⟨hf, ⟨e, ⟨hq, htag, hphase⟩, ?_⟩, ?_⟩
  · show (addCycles n s).sched.now.toNat ≤ _
    omega
  · show (addCycles n s).sched.now.toNat + 1006 < _
    omega

/-- Settles O18: `Punctual` holds where the loop begins and every turn keeps it. -/
theorem smallAdvancesNeverFault : Obligations.SmallAdvancesNeverFault := by
  intro s d h hf hd hroom
  refine ⟨_, exec_adv_of_unfaulted (hd.trans (by decide)) hf (by omega), ?_⟩
  have hloop := firesDue_invariant (P := Punctual) (fun s e rest => Punctual.fired) (advance_firesDue _)
    (.stepped h hf hd hroom)
  exact hloop.unfaulted

/-! ## The Scheduler's Add (R171 to R173) -/

/-- In the queue's order: the earlier deadline, then the lower number (R171). -/
abbrev Earlier (x y : Event) : Prop :=
  x.fireCycle.toNat < y.fireCycle.toNat ∨ (x.fireCycle = y.fireCycle ∧ x.seq.toNat < y.seq.toNat)

theorem before_iff (x y : Event) : x.before y = true ↔ Earlier x y := by simp [Event.before]

theorem Earlier.trans {x y z : Event} (hxy : Earlier x y) (hyz : Earlier y z) : Earlier x z := by
  obtain hxy | ⟨hxy, hseq⟩ := hxy
  · obtain hyz | ⟨hyz, -⟩ := hyz
    · exact .inl (hxy.trans hyz)
    · exact .inl (hyz ▸ hxy)
  · obtain hyz | ⟨hyz, hseq'⟩ := hyz
    · exact .inl (hxy ▸ hyz)
    · exact .inr ⟨hxy.trans hyz, hseq.trans hseq'⟩

/-- In a sorted list whose head does not come before an entry nothing does. -/
theorem not_earlier_of_head {e : Event} {l : List Event} (hsorted : l.Pairwise Earlier)
    (hhead : ∀ x, l.head? = some x → ¬Earlier x e) : ∀ x ∈ l, ¬Earlier x e := by
  cases l with
  | nil => exact fun x hx => absurd hx List.not_mem_nil
  | cons y l =>
    have hy : ¬Earlier y e := hhead y rfl
    intro x hx
    obtain rfl | hx := List.mem_cons.1 hx
    · exact hy
    · exact fun hxe => hy (((List.pairwise_cons.1 hsorted).1 x hx).trans hxe)

/-- Settles O13: `insertEvent` splits the queue at the first entry that does not come before the new one. -/
theorem addInsertsInOrder : Obligations.AddInsertsInOrder := by
  intro s delay tag earlier entry
  refine ⟨fun hneg hf => ?negative, fun hnonneg => ?inserted⟩
  case negative => rw [schedAdd_of_neg _ _ _ hneg, raiseFault_of_none _ _ hf]
  case inserted =>
    obtain ⟨before, after, hq, hinsert, hbefore, hafter⟩ := insertEvent_split entry s.sched.queue
    refine ⟨before, after, hq, ?_, fun x hx => (before_iff x entry).1 (hbefore x hx), fun hsorted => ?_⟩
    · rw [schedAdd_of_nonneg _ _ _ hnonneg, hinsert]
    · have hsorted : after.Pairwise Earlier := (List.pairwise_append.1 (hq ▸ hsorted)).2.1
      refine not_earlier_of_head hsorted fun x hx => ?_
      rw [← before_iff, hafter x hx]
      exact Bool.false_ne_true

end Sys2Proof.Machine.SequencerProofs
end

section
/-! PROOFS. What every instruction keeps: ADV and its frame (R74, R175), the storage (R44 to R47), the timers between
commands (R53, R54), the trace (R66); timers and display apart (R423). -/

namespace Sys2Proof.Machine.InvariantProofs

open Sys2Proof Sys2Proof.Machine Sys2Proof.Machine.Claims
open Sys2Proof.Machine.PhaseProofs (runEvent_unfaulted evalVCount_eq requestVideoFromLine2_eq blankingRequests_eq
  clearVblankAtLine226_eq updateAffine_frame)
open Sys2Proof.Machine.RenderProofs (renderScanline_of_visible renderScanline_of_invisible)
open Sys2Proof.Machine.SequencerProofs (exec_adv_of_unfaulted sequencerInv_reset timerRun_frame firesDue_invariant)

/-! ## Reset and the unrecognised tags (R480, R443) -/

/-- Settles O9: RST builds its state from the one at power-on and takes over five fields. -/
theorem rstRestoresTheResetState : Obligations.RstRestoresTheResetState :=
  fun s => ⟨s.rst, rfl, rfl, rfl⟩

theorem storageInv_reset : StorageInv State.reset := ⟨rfl, rfl, rfl, rfl, rfl, rfl, rfl⟩

theorem settled_reset : Timer.reset.settled := ⟨rfl, by decide, by decide⟩

theorem timersInv_reset : TimersInv State.reset := ⟨settled_reset, settled_reset, settled_reset, settled_reset⟩

/-- Settles O14. -/
theorem resetMeetsTheInvariants : Obligations.ResetMeetsTheInvariants :=
  ⟨storageInv_reset, timersInv_reset, sequencerInv_reset⟩

/-- While no fault is recorded exec of an event's tag is its handler (R176). -/
theorem exec_eventOf_unfaulted {s : State} (hf : s.fault = none) (tag : Phase) (late : BitVec 32) :
    exec (eventOf tag late) s = .next (dispatchEvent tag late.toInt s) := by
  cases tag with
  | code5 | code6 | code7 => exact runEvent_unfaulted _ 0 s hf
  | _ => exact runEvent_unfaulted _ late s hf

/-- Settles O26: `Dispatch` knows five tags. -/
theorem unrecognisedTagsFault : Obligations.UnrecognisedTagsFault := by
  intro s hf
  rw [← raiseFault_of_none .phase s hf]
  exact ⟨exec_eventOf_unfaulted hf .code5 0, exec_eventOf_unfaulted hf .code6 0, exec_eventOf_unfaulted hf .code7 0⟩

/-! ## ADV and its frame (R175, R74) -/

theorem addCycles_toNat (d : BitVec 32) (s : State) :
    addCycles d.toNat s = { s with sched := { s.sched with now := s.sched.now + d.setWidth 64 } } := by
  rw [addCycles, BitVec.ofNat_toNat]

/-- Time, a timer step and the due events write nothing that the bus owns (R74). -/
theorem sameBusWritten_of_writes {s u t : State} {sched : Sched} {tm : Four Timer} {out : List OutRecord}
    (hu : u = { s with sched := sched, tm := tm, out := out }) (hcontrols : SameControls s u) (ht : DisplayWrites u t) :
    SameBusWritten s t := by
  subst hu
  obtain ⟨-, ht⟩ := ht
  rw [ht]
  exact ⟨rfl, ⟨rfl, rfl, rfl, rfl⟩, rfl, rfl, rfl, rfl, rfl, rfl, rfl, ⟨rfl, rfl, rfl, rfl⟩, rfl, rfl, rfl, rfl, rfl,
    rfl, rfl, rfl, fun i => by cases i <;> exact ⟨rfl, rfl⟩, rfl, rfl, rfl, hcontrols⟩

theorem timerRun_keeps (n : Nat) (s : State) :
    (timerRun n s).sched = s.sched ∧ (timerRun n s).params = s.params ∧ (timerRun n s).input = s.input ∧
    (timerRun n s).readout = s.readout := by
  rw [timerRun_frame]
  exact ⟨rfl, rfl, rfl, rfl⟩

/-- Settles O12: `advance` ends where the due events lead; the frame is that of the timer step and of the loop. -/
theorem advRunsTimersThenDueEvents : Obligations.AdvRunsTimersThenDueEvents := by
  refine ⟨?_, fun s tag late hf => exec_eventOf_unfaulted hf tag late⟩
  intro s d hd hf hend stepped
  have hstepped : stepped = timerRun d.toNat (addCycles d.toNat s) := by rw [addCycles_toNat]
  clear_value stepped
  subst hstepped
  have hdisplay := displayWrites_advance (timerRun d.toNat (addCycles d.toNat s))
  obtain ⟨htm, hparams, hinput, hnow, hreadout⟩ := hdisplay.keeps
  obtain ⟨hsched', hparams', hinput', hreadout'⟩ := timerRun_keeps d.toNat (addCycles d.toNat s)
  have hsame := sameBusWritten_of_writes (timerRun_frame d.toNat (addCycles d.toNat s)) (SameControls.run d.toNat _) hdisplay
  exact ⟨_, exec_adv_of_unfaulted hd hf hend, advance_firesDue _, advance_nothingDue _,
    by rw [hnow, hsched', addCycles_toNat], htm.trans (timerRun_tm d.toNat _ s rfl), hdisplay.1, advance_settles _,
    hsame, hinput.trans hinput', hreadout.trans hreadout', hparams.trans hparams'⟩

/-! ## The trace, the parameters, the command stream (R66) -/

theorem trace_of_displayWrites {s t : State} (h : DisplayWrites s t) :
    t.params = s.params ∧ t.input = s.input ∧ ∃ new, t.out = s.out ++ new := by
  obtain ⟨-, hparams, hinput, -⟩ := h.keeps
  exact ⟨hparams, hinput, h.1⟩

/-- An ADV that completes is a timer step followed by display writes, or nothing (R175, R441). -/
theorem exec_adv_writes {d : BitVec 32} {s t : State} (h : exec (.adv d) s = .next t) :
    t = s ∨ DisplayWrites (timerRun d.toNat (addCycles d.toNat s)) t := by
  obtain ⟨-, rfl⟩ | ⟨-, -, rfl⟩ := exec_adv_cases d s t h
  · exact .inl rfl
  · exact .inr (displayWrites_advance _)

theorem exec_eventOf_writes {p : Phase} {late : BitVec 32} {s t : State} (h : exec (eventOf p late) s = .next t) :
    DisplayWrites s t := by
  obtain ⟨-, rfl⟩ | ⟨-, l, rfl⟩ := exec_eventOf p late s h
  · exact .refl t
  · exact displayWrites_dispatchEvent p l s

/-- Settles O19: the trace only grows in a bus command, in a timer step and in the display's writes; RST leaves it. -/
theorem traceGrowsAndParametersStay : Obligations.TraceGrowsAndParametersStay := by
  intro i s t h
  obtain ⟨-, -, -, hparams, hinput, hout, -⟩ | rfl | ⟨d, rfl⟩ | ⟨p, late, rfl⟩ := exec_cases i s t h
  · exact ⟨hparams, hinput, hout⟩
  · cases h
    exact ⟨rfl, rfl, [], (List.append_nil _).symm⟩
  · obtain rfl | hwrites := exec_adv_writes h
    · exact ⟨rfl, rfl, [], (List.append_nil _).symm⟩
    · obtain ⟨hparams, hinput, later, hlater⟩ := trace_of_displayWrites hwrites
      obtain ⟨-, hparams', hinput', -⟩ := timerRun_keeps d.toNat (addCycles d.toNat s)
      obtain ⟨⟨new, hnew⟩, -⟩ := TimerWrites.run d.toNat (addCycles d.toNat s)
      refine ⟨hparams.trans hparams', hinput.trans hinput', new ++ later, ?_⟩
      rw [hlater, hnew, List.append_assoc]
      rfl
  · exact trace_of_displayWrites (exec_eventOf_writes h)

/-! ## Timers between commands (R53, R54) -/

theorem timersInv_iff (s : State) : TimersInv s ↔ (∀ k, (s.tm.get k).overflow = false) ∧ CyclesInRange s := by
  constructor
  · rintro ⟨h0, h1, h2, h3⟩
    exact ⟨fun k => by cases k; exacts [h0.1, h1.1, h2.1, h3.1], fun k => by cases k; exacts [h0.2, h1.2, h2.2, h3.2]⟩
  · rintro ⟨hflag, hcycles⟩
    exact ⟨⟨hflag .n0, hcycles .n0⟩, ⟨hflag .n1, hcycles .n1⟩, ⟨hflag .n2, hcycles .n2⟩, ⟨hflag .n3, hcycles .n3⟩⟩

theorem timersInv_timerRun {s : State} (h : TimersInv s) (n : Nat) : TimersInv (timerRun n s) :=
  (timersInv_iff _).2 ⟨timerRun_overflow n s, CyclesInRange.run n s ((timersInv_iff s).1 h).2⟩

theorem timersInv_of_displayWrites {s t : State} (h : TimersInv s) (hwrites : DisplayWrites s t) : TimersInv t := by
  obtain ⟨htm, -⟩ := hwrites.keeps
  rwa [TimersInv, htm]

/-- Settles O16: a timer step clears the flags and masks the sub-tick counts; the rest of ADV leaves the timers. -/
theorem timersStaySettled : Obligations.TimersStaySettled := by
  intro i s t h hexec
  obtain ⟨-, -, -, -, -, -, -, htimers⟩ | rfl | ⟨d, rfl⟩ | ⟨p, late, rfl⟩ := exec_cases i s t hexec
  · exact htimers h
  · cases hexec
    exact timersInv_reset
  · obtain rfl | hwrites := exec_adv_writes hexec
    · exact h
    · have hmoved : TimersInv (addCycles d.toNat s) := h
      exact timersInv_of_displayWrites (timersInv_timerRun hmoved d.toNat) hwrites
  · exact timersInv_of_displayWrites h (exec_eventOf_writes hexec)

/-! ## The storage (R44 to R47) -/

theorem storageInv_congr {s t : State} (h : StorageInv s) (hpram : t.pram = s.pram) (hoam : t.oam = s.oam)
    (hvram : t.vram = s.vram) (hframe : t.frame.wf = true) : StorageInv t := by
  obtain ⟨h1, h2, h3, h4, h5, h6, -⟩ := h
  exact ⟨hpram ▸ h1, hpram ▸ h2, hoam ▸ h3, hoam ▸ h4, hvram ▸ h5, hvram ▸ h6, hframe⟩

theorem frame_wf_of_storageInv {s : State} (h : StorageInv s) : s.frame.wf = true := by
  obtain ⟨-, -, -, -, -, -, hframe⟩ := h
  exact hframe

theorem storageInv_of_displayWrites {s t : State} (h : StorageInv s) (hwrites : DisplayWrites s t)
    (hframe : t.frame.wf = true) : StorageInv t := by
  obtain ⟨-, ht⟩ := hwrites
  refine storageInv_congr h ?_ ?_ ?_ hframe <;> rw [ht]

/-! A phase event writes the frame in `RenderScanline` alone. -/

@[simp] theorem nextPhase_frame (p : Phase) (late : Int) (s : State) : (nextPhase p late s).frame = s.frame := by
  unfold nextPhase schedAdd
  split
  · rw [raiseFault_frame]
  · rfl

@[simp] theorem requestVideoFromLine2_frame (fire : Word64) (s : State) :
    (requestVideoFromLine2 fire s).frame = s.frame := by rw [requestVideoFromLine2_eq]

@[simp] theorem blankingRequests_frame (fire : Word64) (s : State) : (blankingRequests fire s).frame = s.frame := by
  rw [blankingRequests_eq]

@[simp] theorem clearVblankAtLine226_frame (s : State) : (clearVblankAtLine226 s).frame = s.frame := by
  rw [clearVblankAtLine226_eq]

@[simp] theorem updateAffine_frameRows (s : State) : (updateAffine s).frame = s.frame := by rw [updateAffine_frame]

theorem renderScanline_frame_wf {s : State} (h : s.frame.wf = true) : (renderScanline s).frame.wf = true := by
  by_cases hline : s.ppu.vcount.toNat < 160
  · rw [renderScanline_of_visible hline]
    exact frame_wf_setKey _ _ _ hline (by simp) h
  · rwa [renderScanline_of_invisible (not_lt.1 hline), raiseFault_frame]

/-- Keeps the frame in canonical form (R47). -/
def KeepsFrameWf (f : State → State) : Prop := ∀ s : State, s.frame.wf = true → (f s).frame.wf = true

theorem KeepsFrameWf.runOps {fs : List (State → State)} (h : ∀ f ∈ fs, KeepsFrameWf f) : KeepsFrameWf (runOps fs) := by
  induction fs with
  | nil => exact fun s hs => hs
  | cons f fs ih =>
    intro s hs
    rw [Machine.runOps]
    split
    · exact hs
    · exact ih (fun g hg => h g (List.mem_cons_of_mem f hg)) _ (h f List.mem_cons_self s hs)

theorem hblankBranch_keepsFrameWf (late : Int) (fire : Word64) : KeepsFrameWf (hblankBranch late fire) := by
  intro s
  unfold hblankBranch
  split
  · exact KeepsFrameWf.runOps (by simp [KeepsFrameWf, raiseVblank]) s
  · exact KeepsFrameWf.runOps (by simp [KeepsFrameWf]) s

theorem vblankBranch_keepsFrameWf (late : Int) : KeepsFrameWf (vblankBranch late) := by
  intro s
  unfold vblankBranch
  split
  · exact KeepsFrameWf.runOps (by simp [KeepsFrameWf]) s
  · exact KeepsFrameWf.runOps (by simp [KeepsFrameWf]) s

theorem dispatchEvent_keepsFrameWf (p : Phase) (late : Int) : KeepsFrameWf (dispatchEvent p late) := by
  intro s
  cases p with
  | scanline =>
    have hrender : KeepsFrameWf renderScanline := fun _ => renderScanline_frame_wf
    exact KeepsFrameWf.runOps (by simpa [KeepsFrameWf, raiseHblank] using hrender) s
  | hblankSearch => exact KeepsFrameWf.runOps (by simp [KeepsFrameWf]) s
  | hblank => exact KeepsFrameWf.runOps (by simpa [KeepsFrameWf] using hblankBranch_keepsFrameWf late _) s
  | vblankScanline => exact KeepsFrameWf.runOps (by simp [KeepsFrameWf, raiseHblank]) s
  | vblankHblank => exact KeepsFrameWf.runOps (by simpa [KeepsFrameWf] using vblankBranch_keepsFrameWf late) s
  | code5 | code6 | code7 => exact fun hs => (raiseFault_frame _ s).symm ▸ hs

theorem advance_keepsFrameWf : KeepsFrameWf advance := fun s =>
  firesDue_invariant (P := fun s => s.frame.wf = true)
    (fun s e _ _ _ _ hs => dispatchEvent_keepsFrameWf e.tag _ (popEvent s) hs) (advance_firesDue s)

/-- Settles O15: bus commands keep the tables canonical, and of the display's writes only a rendered row touches one. -/
theorem storageStaysCanonical : Obligations.StorageStaysCanonical := by
  intro i s t h hexec
  obtain ⟨-, -, -, -, -, -, hstorage, -⟩ | rfl | ⟨d, rfl⟩ | ⟨p, late, rfl⟩ := exec_cases i s t hexec
  · exact hstorage h
  · cases hexec
    exact storageInv_reset
  · obtain ⟨-, rfl⟩ | ⟨-, -, rfl⟩ := exec_adv_cases d s t hexec
    · exact h
    · have hstepped : StorageInv (timerRun d.toNat (addCycles d.toNat s)) := by
        rw [timerRun_frame]
        exact h
      exact storageInv_of_displayWrites hstepped (displayWrites_advance _)
        (advance_keepsFrameWf _ (frame_wf_of_storageInv hstepped))
  · obtain ⟨-, rfl⟩ | ⟨-, l, rfl⟩ := exec_eventOf p late s hexec
    · exact h
    · exact storageInv_of_displayWrites h (displayWrites_dispatchEvent p l s)
        (dispatchEvent_keepsFrameWf p l s (frame_wf_of_storageInv h))

/-! ## Timers and display apart (R423) -/

/-- The same state but for the timers and the trace. -/
def SameDisplay (s u : State) : Prop := ∃ tm out, u = { s with tm := tm, out := out }

/-- Whatever the timers and the trace are, it does the same to the rest. -/
def Blind (f : State → State) : Prop := ∀ s tm out, SameDisplay (f s) (f { s with tm := tm, out := out })

theorem Blind.sameDisplay {f : State → State} (h : Blind f) {s u : State} (hsu : SameDisplay s u) :
    SameDisplay (f s) (f u) := by
  obtain ⟨tm, out, rfl⟩ := hsu
  exact h s tm out

@[simp] theorem Blind.raiseFault (c : FaultCode) : Blind (raiseFault c) := by
  intro s tm out
  by_cases hf : s.fault = none
  · rw [raiseFault_of_none c s hf, raiseFault_of_none c _ (by exact hf)]
    exact ⟨tm, out, rfl⟩
  · rw [raiseFault_of_some c s hf, raiseFault_of_some c _ (by exact hf)]
    exact ⟨tm, out, rfl⟩

@[simp] theorem Blind.emit (w : Output) (fire : Option Word64) : Blind (emit w fire) := fun _ tm _ => ⟨tm, _, rfl⟩

theorem Blind.raiseIf (b : Bool) (src : Source) (fire : Option Word64) : Blind (raiseIf b src fire) := by
  cases b with
  | true => exact Blind.emit (.raise src) fire
  | false => exact fun _ tm out => ⟨tm, out, rfl⟩

@[simp] theorem Blind.raiseHblank (fire : Word64) : Blind (raiseHblank fire) := fun s => Blind.raiseIf _ _ _ s

@[simp] theorem Blind.raiseVblank (fire : Word64) : Blind (raiseVblank fire) := fun s => Blind.raiseIf _ _ _ s

@[simp] theorem Blind.nextPhase (p : Phase) (late : Int) : Blind (nextPhase p late) := by
  intro s tm out
  unfold Machine.nextPhase schedAdd
  split
  · exact Blind.raiseFault .negativeDelay { s with ppu := { s.ppu with phase := p } } tm out
  · exact ⟨tm, out, rfl⟩

@[simp] theorem Blind.setHblankFlag (b : Bool) : Blind (setHblankFlag b) := fun _ tm out => ⟨tm, out, rfl⟩

@[simp] theorem Blind.setVblankFlag (b : Bool) : Blind (setVblankFlag b) := fun _ tm out => ⟨tm, out, rfl⟩

@[simp] theorem Blind.setVcount (v : BitVec 8) : Blind (setVcount v) := fun _ tm out => ⟨tm, out, rfl⟩

@[simp] theorem Blind.advanceMosaic : Blind advanceMosaic := fun _ tm out => ⟨tm, out, rfl⟩

@[simp] theorem Blind.clearMosaic : Blind clearMosaic := fun _ tm out => ⟨tm, out, rfl⟩

@[simp] theorem Blind.requestVideoFromLine2 (fire : Word64) : Blind (requestVideoFromLine2 fire) := by
  intro s tm out
  rw [requestVideoFromLine2_eq, requestVideoFromLine2_eq]
  exact ⟨tm, _, rfl⟩

@[simp] theorem Blind.blankingRequests (fire : Word64) : Blind (blankingRequests fire) := by
  intro s tm out
  rw [blankingRequests_eq, blankingRequests_eq]
  exact ⟨tm, _, rfl⟩

@[simp] theorem Blind.clearVblankAtLine226 : Blind clearVblankAtLine226 := by
  intro s tm out
  rw [clearVblankAtLine226_eq, clearVblankAtLine226_eq]
  exact ⟨tm, out, rfl⟩

@[simp] theorem Blind.evalVCount (fire : Option Word64) : Blind (evalVCount fire) := by
  intro s tm out
  rw [evalVCount_eq, evalVCount_eq]
  exact ⟨tm, _, rfl⟩

@[simp] theorem Blind.updateAffine : Blind updateAffine := by
  intro s tm out
  unfold Machine.updateAffine
  split
  · exact ⟨tm, out, rfl⟩
  · exact ⟨tm, out, rfl⟩

/-- The renderer reads neither the timers nor the trace (R423). -/
@[simp] theorem Blind.renderScanline : Blind renderScanline := by
  intro s tm out
  by_cases hline : s.ppu.vcount.toNat < 160
  · rw [renderScanline_of_visible hline, renderScanline_of_visible (by exact hline)]
    exact ⟨tm, out, rfl⟩
  · rw [renderScanline_of_invisible (not_lt.1 hline), renderScanline_of_invisible (by exact not_lt.1 hline)]
    exact Blind.raiseFault .index s tm out

theorem Blind.runOps {fs : List (State → State)} (h : ∀ f ∈ fs, Blind f) : Blind (runOps fs) := by
  induction fs with
  | nil => exact fun _ tm out => ⟨tm, out, rfl⟩
  | cons f fs ih =>
    intro s tm out
    have hfault : ({ s with tm := tm, out := out } : State).faulted = s.faulted := rfl
    rw [Machine.runOps, Machine.runOps, hfault]
    split
    · exact ⟨tm, out, rfl⟩
    · exact (ih fun g hg => h g (List.mem_cons_of_mem f hg)).sameDisplay (h f List.mem_cons_self s tm out)

@[simp] theorem Blind.hblankBranch (late : Int) (fire : Word64) : Blind (hblankBranch late fire) := by
  intro s tm out
  unfold Machine.hblankBranch
  split
  · exact Blind.runOps (by simp) s tm out
  · exact Blind.runOps (by simp) s tm out

@[simp] theorem Blind.vblankBranch (late : Int) : Blind (vblankBranch late) := by
  intro s tm out
  unfold Machine.vblankBranch
  split
  · exact Blind.runOps (by simp) s tm out
  · exact Blind.runOps (by simp) s tm out

theorem Blind.dispatchEvent (p : Phase) (late : Int) : Blind (dispatchEvent p late) := by
  intro s tm out
  cases p with
  | code5 | code6 | code7 => exact Blind.raiseFault .phase s tm out
  | _ => exact Blind.runOps (by simp) s tm out

theorem Blind.advanceLoop (n : Nat) : Blind (advanceLoop n) := by
  induction n with
  | zero => exact fun _ tm out => ⟨tm, out, rfl⟩
  | succ n ih =>
    intro s tm out
    have hfault : ({ s with tm := tm, out := out } : State).faulted = s.faulted := rfl
    rw [Machine.advanceLoop, Machine.advanceLoop, hfault]
    split
    · exact ⟨tm, out, rfl⟩
    · dsimp only
      split
      · exact ⟨tm, out, rfl⟩
      · split
        · exact ih.sameDisplay (Blind.dispatchEvent _ _ (popEvent s) tm out)
        · exact ⟨tm, out, rfl⟩

theorem Blind.advance : Blind advance := fun s => Blind.advanceLoop (3 * s.sched.queue.length) s

theorem Blind.timerRun (n : Nat) : Blind (timerRun n) := by
  intro s tm out
  rw [timerRun_frame n s, timerRun_frame n { s with tm := tm, out := out }]
  exact ⟨_, _, rfl⟩

/-- Whether ADV completes does not depend on the timers, and neither does what it does to the display (R423). -/
theorem exec_adv_blind {s t : State} {d : BitVec 32} (h : exec (.adv d) s = .next t) (tm : Four Timer)
    (out : List OutRecord) : ∃ v, exec (.adv d) { s with tm := tm, out := out } = .next v ∧ SameDisplay t v := by
  simp only [exec, execAdv] at h ⊢
  split at h
  · cases h
  · rename_i hbound
    split at h
    · rename_i hfaulted
      cases h
      exact ⟨_, (if_neg hbound).trans (if_pos hfaulted), tm, out, rfl⟩
    · rename_i hfaulted
      split at h
      · cases h
      · rename_i hend
        cases h
        have hmoved : SameDisplay (addCycles d.toNat s) (addCycles d.toNat { s with tm := tm, out := out }) :=
          ⟨tm, out, rfl⟩
        exact ⟨_, (if_neg hbound).trans ((if_neg hfaulted).trans (if_neg hend)),
          Blind.advance.sameDisplay ((Blind.timerRun d.toNat).sameDisplay hmoved)⟩

/-- Settles O20: the display's actions are blind to the timers and the trace, a timer step to everything but the timers. -/
theorem timersAndDisplayAreIndependent : Obligations.TimersAndDisplayAreIndependent := by
  refine ⟨fun s t d timers h => ?display, fun s s' t t' d hf hf' htm h h' => ?timers⟩
  case display =>
    obtain ⟨u, hexec, tm, out, rfl⟩ := exec_adv_blind h timers s.out
    exact ⟨_, hexec, rfl⟩
  case timers =>
    have htimers {s t : State} (hf : s.fault = none) (h : exec (.adv d) s = .next t) : t.tm = (timerRun d.toNat s).tm := by
      obtain ⟨hfault, -⟩ | ⟨-, -, rfl⟩ := exec_adv_cases d s t h
      · exact absurd hf hfault
      · rw [(displayWrites_advance _).keeps.1]
        exact timerRun_tm _ _ _ rfl
    rw [htimers hf h, htimers hf' h', timerRun_tm _ _ _ htm]

end Sys2Proof.Machine.InvariantProofs
end

section
/-! PROOFS. Steps of a timer put together: free-running steps add up (R414), a cascaded timer counts once (R419). -/

namespace Sys2Proof.Machine.TimerStepProofs

open Sys2Proof Sys2Proof.Machine Sys2Proof.Machine.Claims
open Sys2Proof.Machine.TimerProofs (increments subTick room period free_eq_nat turn_free turn_cascaded_clear cleared
  timerRunLeavesNoFlagAndSkipsDisabled)

/-! ## Counting in natural numbers (R414) -/

/-- Where `n` counts lead from count `c` with the reload value `r`, and the wraps on the way. -/
def countOn (r c n : Nat) : Nat × Nat :=
  if n < 0x10000 - c then (c + n, 0)
  else (r + (n - (0x10000 - c)) % (0x10000 - r), 1 + (n - (0x10000 - c)) / (0x10000 - r))

theorem countOn_of_lt {r c n : Nat} (h : n < 0x10000 - c) : countOn r c n = (c + n, 0) := if_pos h

theorem countOn_room_add {r c : Nat} (n : Nat) : countOn r c (0x10000 - c + n) =
    (r + n % (0x10000 - r), 1 + n / (0x10000 - r)) := by
  rw [countOn, if_neg (by omega), Nat.add_sub_cancel_left]

/-- Counts past a wrap, in two parts: those since the last wrap of the first part go on with the second. -/
theorem countOn_after_wrap {r : Nat} (hr : r < 0x10000) (m n : Nat) : countOn r (r + m % (0x10000 - r)) n =
    (r + (m + n) % (0x10000 - r), (m + n) / (0x10000 - r) - m / (0x10000 - r)) := by
  obtain ⟨p, hp⟩ : ∃ p, p = 0x10000 - r := ⟨_, rfl⟩
  have hpos : 0 < p := by omega
  have hlt := Nat.mod_lt m hpos
  have hm := Nat.div_add_mod m p
  rw [← hp]
  obtain hfits | ⟨k, rfl⟩ : n < p - m % p ∨ ∃ k, n = p - m % p + k :=
    (lt_or_ge n _).imp_right fun h => ⟨n - (p - m % p), by omega⟩
  · have hsum : m + n = (m % p + n) + p * (m / p) := by omega
    rw [countOn_of_lt (by omega), hsum, Nat.add_mul_mod_self_left, Nat.add_mul_div_left _ _ hpos,
      Nat.mod_eq_of_lt (by omega : m % p + n < p), Nat.div_eq_of_lt (by omega : m % p + n < p), Nat.add_assoc,
      Nat.zero_add, Nat.sub_self]
  · have hsum : m + (p - m % p + k) = k + p * (m / p + 1) := by rw [Nat.mul_add]; omega
    rw [show p - m % p + k = 0x10000 - (r + m % p) + k by omega, countOn_room_add,
      show m + (0x10000 - (r + m % p) + k) = m + (p - m % p + k) by omega, hsum, Nat.add_mul_mod_self_left,
      Nat.add_mul_div_left _ _ hpos, ← hp, ← Nat.add_assoc, Nat.add_right_comm, Nat.add_sub_cancel_right, Nat.add_comm 1]

/-- Counting on adds up. -/
theorem countOn_add {r c : Nat} (hr : r < 0x10000) (m n : Nat) : countOn r c (m + n) =
    ((countOn r (countOn r c m).1 n).1, (countOn r c m).2 + (countOn r (countOn r c m).1 n).2) := by
  obtain hfits | ⟨k, rfl⟩ : m < 0x10000 - c ∨ ∃ k, m = 0x10000 - c + k :=
    (lt_or_ge m _).imp_right fun h => ⟨m - (0x10000 - c), by omega⟩
  · rw [countOn_of_lt hfits]
    obtain hfits' | ⟨k, rfl⟩ : n < 0x10000 - (c + m) ∨ ∃ k, n = 0x10000 - (c + m) + k :=
      (lt_or_ge n _).imp_right fun h => ⟨n - (0x10000 - (c + m)), by omega⟩
    · rw [countOn_of_lt hfits', countOn_of_lt (by omega), Nat.add_assoc]
      rfl
    · rw [countOn_room_add, show m + (0x10000 - (c + m) + k) = 0x10000 - c + k by omega, countOn_room_add,
        Nat.zero_add]
  · have hle : k / (0x10000 - r) ≤ (k + n) / (0x10000 - r) := Nat.div_le_div_right (Nat.le_add_right _ _)
    rw [Nat.add_assoc, countOn_room_add, countOn_room_add, countOn_after_wrap hr]
    congr 1
    dsimp only
    omega

/-! ## The free-running timer counts on (R413) -/

section Free
variable {t : Timer} (hcycles : 0 ≤ t.cycles.toInt) (delta : Nat)
include hcycles

theorem free_cycles : (t.free delta).1.cycles = subTick t delta := by
  rw [free_eq_nat t delta hcycles]
  split_ifs <;> rfl

theorem free_countOn : ((t.free delta).1.counter.toNat, (t.free delta).2) =
    countOn t.reload.toNat t.counter.toNat (increments t delta) := by
  have hc := t.counter.isLt
  have hr := t.reload.isLt
  have hmod : ∀ n, n % (0x10000 - t.reload.toNat) < 0x10000 - t.reload.toNat := fun n => Nat.mod_lt n (by omega)
  rw [free_eq_nat t delta hcycles, countOn, room, period]
  split_ifs with hfits
  · rw [Prod.mk.injEq]
    exact ⟨by rw [BitVec.toNat_add, BitVec.toNat_ofNat, Nat.add_mod_mod, Nat.mod_eq_of_lt (by omega)], rfl⟩
  · have := hmod (increments t delta - (0x10000 - t.counter.toNat))
    rw [Prod.mk.injEq]
    exact ⟨by rw [BitVec.toNat_add, BitVec.toNat_ofNat, Nat.add_mod_mod, Nat.mod_eq_of_lt (by omega)], rfl⟩

theorem free_keeps_setup : (t.free delta).1.reload = t.reload ∧ (t.free delta).1.frequency = t.frequency := by
  rw [free_eq_nat t delta hcycles]
  split_ifs <;> exact ⟨rfl, rfl⟩

end Free

theorem shiftOf_le (f : BitVec 2) : 2 ^ shiftOf f ≤ 1024 := by revert f; decide

theorem subTick_toNat (t : Timer) (delta : Nat) :
    (subTick t delta).toNat = (t.cycles.toNat + delta) % 2 ^ shiftOf t.frequency := by
  have hlt := Nat.mod_lt (t.cycles.toNat + delta) (Nat.two_pow_pos (shiftOf t.frequency))
  have hle := shiftOf_le t.frequency
  rw [subTick, BitVec.toNat_ofNat, Nat.mod_eq_of_lt (by omega)]

theorem subTick_nonneg (t : Timer) (delta : Nat) : 0 ≤ (subTick t delta).toInt := by
  have hlt := Nat.mod_lt (t.cycles.toNat + delta) (Nat.two_pow_pos (shiftOf t.frequency))
  have hle := shiftOf_le t.frequency
  rw [← subTick_toNat] at hlt
  rw [BitVec.toInt_eq_toNat_of_lt (by omega)]
  exact Int.natCast_nonneg _

section TwoSteps
variable {t u : Timer} {a : Nat} (hcycles : u.cycles = subTick t a) (hfreq : u.frequency = t.frequency) (b : Nat)
include hcycles hfreq

theorem subTick_add : subTick t (a + b) = subTick u b := by
  apply BitVec.eq_of_toNat_eq
  rw [subTick_toNat, subTick_toNat, hcycles, hfreq, subTick_toNat, Nat.mod_add_mod, Nat.add_assoc]
theorem increments_add : increments t (a + b) = increments t a + increments u b := by
  rw [increments, increments, increments, hcycles, hfreq, subTick_toNat, ← Nat.add_assoc]
  obtain ⟨p, hp⟩ : ∃ p, p = 2 ^ shiftOf t.frequency := ⟨_, rfl⟩
  obtain ⟨x, hx⟩ : ∃ x, x = t.cycles.toNat + a := ⟨_, rfl⟩
  have hpos : 0 < p := hp ▸ Nat.two_pow_pos _
  rw [← hp, ← hx]
  conv_lhs => rw [← Nat.mod_add_div x p, Nat.add_right_comm, Nat.add_mul_div_left _ _ hpos]
  exact Nat.add_comm _ _

end TwoSteps

/-- Settles O46: both ways the timer counts on by the same counts (`countOn_add`, `increments_add`). -/
theorem freeRunningTimerStepsAddUp : Obligations.FreeRunningTimerStepsAddUp := by
  intro t a b hcycles once first second
  obtain ⟨hreload, hfreq⟩ : first.1.reload = t.reload ∧ first.1.frequency = t.frequency := free_keeps_setup hcycles a
  have hsub : first.1.cycles = subTick t a := free_cycles hcycles a
  have hsigned : 0 ≤ first.1.cycles.toInt := hsub ▸ subTick_nonneg t a
  have hfirst : (first.1.counter.toNat, first.2) = _ := free_countOn hcycles a
  have hsecond : (second.1.counter.toNat, second.2) = _ := free_countOn hsigned b
  have honce : (once.1.counter.toNat, once.2) = (second.1.counter.toNat, first.2 + second.2) := by
    rw [hreload] at hsecond
    rw [show (once.1.counter.toNat, once.2) = _ from free_countOn hcycles (a + b), increments_add hsub hfreq,
      countOn_add t.reload.isLt, ← hfirst, ← hsecond]
  obtain ⟨hcounter, hwraps⟩ := Prod.mk.injEq .. ▸ honce
  exact ⟨BitVec.eq_of_toNat_eq hcounter,
    (free_cycles hcycles (a + b)).trans ((subTick_add hsub hfreq b).trans (free_cycles hsigned b).symm), hwraps⟩

/-! ## Cascade collapse (R419) -/

theorem turn_cascaded_set {t : Timer} (he : t.enable = true) (hc : t.cascade = true) (delta : Nat) :
    (t.turn true delta).1.counter = if t.counter = 0xFFFF then t.reload else t.counter + 1 := by
  rw [Timer.turn]
  simp only [he, hc, Bool.not_true, Bool.false_eq_true, if_false]
  split_ifs <;> rfl

/-- Settles O49: timer 1 takes one turn, told whether timer 0 has wrapped and not how often. -/
theorem cascadeCollapses : Obligations.CascadeCollapses := by
  intro s delta hen0 hfree0 hclear0 hen1 hcascade1 wraps before after
  have hrun := (timerRunLeavesNoFlagAndSkipsDisabled s delta).1
  have hafter : after = ((s.tm.get .n1).turn (decide (1 ≤ wraps)) delta).1.counter := by
    rw [turn_free hen0 hfree0, hclear0, Bool.false_or] at hrun
    exact congrArg (fun u : State => u.tm.e1.counter) hrun
  rw [hafter]
  refine ⟨fun hnone => ?_, fun hsome => ?_⟩
  · rw [hnone]
    exact congrArg (·.1.counter) (turn_cascaded_clear hen1 hcascade1 delta)
  · rw [decide_eq_true hsome]
    exact turn_cascaded_set hen1 hcascade1 delta

end Sys2Proof.Machine.TimerStepProofs
end

section
/-! PROOFS. The bus commands by their address (R120, R230, R231): the generic command and the row, alignment (R83),
halfwords and bytes, write-only reads (R242), what no bus command changes (R275), and the faulted block (R441). -/

namespace Sys2Proof.Machine.RowProofs

open Sys2Proof Sys2Proof.Machine Sys2Proof.Machine.Claims
open Sys2Proof.Machine.MemoryProofs (decodeAddr_eq_some_iff reg_offset_even exec_row_undecoded)
open Sys2Proof.Machine.RegisterProofs (exec_wr8At_unfaulted exec_wr16At_unfaulted afterWrite_of_ne_dispstat
  writeDispcntLow_eq timer_control_eq)
open Sys2Proof.Machine.PhaseProofs (evalVCount_eq)
open Sys2Proof.Machine.DecodeProofs (extractLsb'_zero_append_high Spells spells_of_decode
  decodingAnEncodingGivesTheInstruction rd8Row_word rd16Row_word wr8Row_word wr16Row_word)

/-! ## The generic bus command at an address -/

section Decoded
variable {addr : BitVec 32} {l : Loc} (hdec : decodeAddr addr = some l) (s : State)
include hdec

theorem exec_rd8_of_decodeAddr : exec (.rd8 addr) s = .next (busRead8 l s) := by
  simp only [exec, execRd8, hdec, busRead8]
  split <;> rfl

theorem exec_rd16_of_decodeAddr : exec (.rd16 addr) s = .next (busRead16 l s) := by
  simp only [exec, execRd16, hdec, busRead16]
  split <;> rfl

theorem exec_wr8_of_decodeAddr (v : Byte) : exec (.wr8 addr v) s = .next (busWrite8 l v s) := by
  simp only [exec, execWr8, hdec, busWrite8]
  split <;> rfl

theorem exec_wr16_of_decodeAddr (v : Half) : exec (.wr16 addr v) s = .next (busWrite16 l v s) := by
  simp only [exec, execWr16, hdec, busWrite16]
  split <;> rfl

end Decoded

section Row
variable (addr : BitVec 32) (s : State)

/-- The row of an address, decoded or not, runs as the generic command does. -/
theorem exec_rd8Row : exec (rd8Row addr) s = exec (.rd8 addr) s := by
  unfold rd8Row
  split
  case h_1 r lane h => rw [exec_rd8At, exec_rd8_of_decodeAddr h]
  case h_2 sp off h => rw [exec_rd8Mem sp off s (valid_of_decodeAddr addr _ h), exec_rd8_of_decodeAddr h]
  case h_3 => rfl

theorem exec_rd16Row : exec (rd16Row addr) s = exec (.rd16 addr) s := by
  unfold rd16Row
  split
  case h_1 r h => rw [exec_rd16At, exec_rd16_of_decodeAddr h]
  case h_2 => rfl
  case h_3 sp off h => rw [exec_rd16Mem sp off s (valid_of_decodeAddr addr _ h), exec_rd16_of_decodeAddr h]
  case h_4 => rfl

theorem exec_wr8Row (v : Byte) : exec (wr8Row addr v) s = exec (.wr8 addr v) s := by
  unfold wr8Row
  split
  case h_1 r lane h => rw [exec_wr8At, exec_wr8_of_decodeAddr h]
  case h_2 sp off h => rw [exec_wr8Mem sp off v s (valid_of_decodeAddr addr _ h), exec_wr8_of_decodeAddr h]
  case h_3 => rfl

theorem exec_wr16Row (v : Half) : exec (wr16Row addr v) s = exec (.wr16 addr v) s := by
  unfold wr16Row
  split
  case h_1 r h => rw [exec_wr16At, exec_wr16_of_decodeAddr h]
  case h_2 => rfl
  case h_3 sp off h => rw [exec_wr16Mem sp off v s (valid_of_decodeAddr addr _ h), exec_wr16_of_decodeAddr h]
  case h_4 => rfl

end Row

/-- Settles O7: the row runs as the generic command (`exec_rd8Row` and its like), which completes at a decoded address. -/
theorem genericCommandIsTheRowOfItsAddress : Obligations.GenericCommandIsTheRowOfItsAddress := by
  intro addr s hsome
  obtain ⟨l, hdec⟩ := Option.ne_none_iff_exists'.1 hsome
  simp only [exec_rd8Row, exec_rd16Row, exec_wr8Row, exec_wr16Row]
  exact ⟨⟨_, exec_rd8_of_decodeAddr hdec s, exec_rd8_of_decodeAddr hdec s⟩,
    ⟨_, exec_rd16_of_decodeAddr hdec s, exec_rd16_of_decodeAddr hdec s⟩,
    fun v => ⟨_, exec_wr8_of_decodeAddr hdec s v, exec_wr8_of_decodeAddr hdec s v⟩,
    fun v => ⟨_, exec_wr16_of_decodeAddr hdec s v, exec_wr16_of_decodeAddr hdec s v⟩⟩

/-! ## Alignment (R83, R446) -/

/-- Registers and regions start at even addresses. -/
theorem odd_iff_addr (l : Loc) : l.odd = true ↔ l.addr % 2 = 1 := by
  cases l with
  | reg r lane =>
    have heven := reg_offset_even r
    cases lane <;> simp only [Loc.odd, Loc.addr, Reg.addr, Lane.toNat, Bool.false_eq_true, false_iff, true_iff] <;> omega
  | mem sp off => cases sp <;> simp only [Loc.odd, Loc.addr, spaceBase, decide_eq_true_eq] <;> omega

theorem odd_of_decodeAddr {addr : BitVec 32} {l : Loc} (hdec : decodeAddr addr = some l) : l.odd = addr.getLsbD 0 := by
  obtain ⟨-, haddr⟩ := (decodeAddr_eq_some_iff addr l).1 hdec
  rw [Bool.eq_iff_iff, odd_iff_addr, haddr, BitVec.getLsbD, Nat.testBit_zero, decide_eq_true_iff]

theorem afterWrite_fault (l : Loc) (s : State) : (afterWrite l s).fault = s.fault := by
  unfold afterWrite
  split
  · split
    · exact evalVCount_fault none s
    · rfl
  · rfl

section Access
variable {l : Loc} (hvalid : l.valid) (s : State)
include hvalid

theorem busRead8_fault : (busRead8 l s).fault = s.fault := by
  obtain ⟨r, n, hread⟩ := busRead8_cases l s hvalid
  rw [hread]

theorem busWrite8_fault (v : Byte) : (busWrite8 l v s).fault = s.fault := by
  unfold busWrite8
  split
  · rfl
  · rw [afterWrite_fault, (BusWrites.at l v s hvalid).2]

theorem busRead16_fault_of_even (heven : l.odd = false) : (busRead16 l s).fault = s.fault := by
  obtain ⟨r, n, f, hread, rfl | ⟨-, hodd, -⟩⟩ := busRead16_cases l s hvalid (above_valid l hvalid)
  · rw [hread]
  · exact absurd hodd (Bool.eq_false_iff.1 heven)

theorem busWrite16_fault_of_even (heven : l.odd = false) (v : Half) : (busWrite16 l v s).fault = s.fault := by
  rw [busWrite16, heven, if_neg Bool.false_ne_true]
  split
  · rfl
  · rw [afterWrite_fault, (BusWrites.at l.above _ _ (above_valid l hvalid heven)).2, (BusWrites.at l _ s hvalid).2]

end Access

section Odd
variable {l : Loc} (hodd : l.odd = true) {s : State} (hf : s.fault = none)
include hodd hf

theorem busRead16_of_odd : busRead16 l s = returnFreeHalf { s with fault := some .misaligned } := by
  rw [busRead16, faulted_of_none s hf, if_neg Bool.false_ne_true, if_pos hodd, raiseFault_of_none _ s hf]

theorem busWrite16_of_odd (v : Half) : busWrite16 l v s = { s with fault := some .misaligned } := by
  rw [busWrite16, faulted_of_none s hf, if_neg Bool.false_ne_true, if_pos hodd, raiseFault_of_none _ s hf]

end Odd

/-- Settles O43: only the halfword branch at an odd location records a fault. -/
theorem halfwordAccessesMustBeEven : Obligations.HalfwordAccessesMustBeEven := by
  intro addr s hf hsome
  obtain ⟨l, hdec⟩ := Option.ne_none_iff_exists'.1 hsome
  have hvalid := valid_of_decodeAddr addr l hdec
  simp only [exec_rd8Row, exec_rd16Row, exec_wr8Row, exec_wr16Row, exec_rd8_of_decodeAddr hdec,
    exec_rd16_of_decodeAddr hdec, exec_wr8_of_decodeAddr hdec, exec_wr16_of_decodeAddr hdec,
    ← odd_of_decodeAddr hdec]
  refine ⟨⟨_, rfl, (busRead8_fault hvalid s).trans hf⟩, fun v => ⟨_, rfl, (busWrite8_fault hvalid s v).trans hf⟩,
    fun heven => ⟨⟨_, rfl, (busRead16_fault_of_even hvalid s heven).trans hf⟩, fun v =>
      ⟨_, rfl, (busWrite16_fault_of_even hvalid s heven v).trans hf⟩⟩, fun hodd => ⟨?read, fun v => ?write⟩⟩
  case read =>
    rw [busRead16_of_odd hodd hf]
    rfl
  case write => rw [busWrite16_of_odd hodd hf]

/-! ## Write-only registers (R242) -/

theorem readReg_of_writeOnly {r : Reg} (h : writeOnly r = true) (lane : Lane) (s : State) : readReg r lane s = none := by
  cases r with
  | dispcnt | dispstat | vcount | bgcnt _ | winin | winout | bldcnt | bldalpha | tmcntL _ | tmcntH _ => cases h
  | _ => rfl

/-- Settles O38: a register byte without a value is drawn; the holes are in no row of R120. -/
theorem writeOnlyReadsAreUnspecified : Obligations.WriteOnlyReadsAreUnspecified := by
  refine ⟨fun s r hf hwo => ⟨fun lane => ?byte, ?half⟩, rfl, rfl, rfl, rfl⟩
  case byte =>
    rw [exec_rd8At, busRead8, faulted_of_none s hf, readByteAt, readReg_of_writeOnly hwo]
    rfl
  case half =>
    simp only [exec_rd16At, busRead16, faulted_of_none s hf, readByteAt, readReg_of_writeOnly hwo, Loc.above]
    rfl

/-! ## Halfwords and bytes (R86, R230, R231) -/

theorem readReg_returnValue (r : Reg) (lane : Lane) (v : ReadValue) (s : State) :
    readReg r lane (returnValue v s) = readReg r lane s := by
  cases r <;> rfl

theorem readByteAt_returnValue (r : Reg) (lane : Lane) (v : ReadValue) (s : State) :
    readByteAt (.reg r lane) (returnValue v s) =
      ((readByteAt (.reg r lane) s).1, returnValue v (readByteAt (.reg r lane) s).2) := by
  simp only [readByteAt, readReg_returnValue]
  split <;> rfl

theorem readByteAt_reg_fault (r : Reg) (lane : Lane) (s : State) : (readByteAt (.reg r lane) s).2.fault = s.fault := by
  simp only [readByteAt]
  split <;> rfl

theorem busRead8_of_readByteAt {s t : State} {l : Loc} {b : Byte} (hf : s.fault = none)
    (h : readByteAt l s = (b, t)) : busRead8 l s = returnValue (.byte b) t := by
  rw [busRead8, faulted_of_none s hf, h, if_neg Bool.false_ne_true]

theorem busRead16_of_readByteAt {s t u : State} {r : Reg} {lo hi : Byte} (hf : s.fault = none)
    (hlo : readByteAt (.reg r .lo) s = (lo, t)) (hhi : readByteAt (.reg r .hi) t = (hi, u)) :
    busRead16 (.reg r .lo) s = returnValue (.half (hi ++ lo)) u := by
  simp only [busRead16, faulted_of_none s hf, Loc.odd, Loc.above, hlo, hhi, Bool.false_eq_true, if_false]

/-- Where DISPSTAT is not written, or its match not evaluated on a write, a write has no after-effect (R237). -/
theorem afterWrite_of_quiet {r : Reg} {s : State} (h : r ≠ .dispstat ∨ s.params.vcountEvalOnWrite = false)
    (lane : Lane) : afterWrite (.reg r lane) s = s := by
  obtain hr | hoff := h
  · exact afterWrite_of_ne_dispstat hr lane s
  · cases r with
    | dispstat => rw [afterWrite, hoff, if_neg Bool.false_ne_true]
    | _ => rfl

/-- Settles O41: a value handed to the host is not seen by the next read; without the evaluation on write, a halfword
write is its two byte writes. -/
theorem halfwordRowsAreTwoByteRows : Obligations.HalfwordRowsAreTwoByteRows := by
  refine ⟨fun s r hf => ?reads, fun s r v hf hquiet => ?writes⟩
  case reads =>
    obtain ⟨lo, t, hlo⟩ : ∃ lo t, readByteAt (.reg r .lo) s = (lo, t) := ⟨_, _, rfl⟩
    obtain ⟨hi, u, hhi⟩ : ∃ hi u, readByteAt (.reg r .hi) t = (hi, u) := ⟨_, _, rfl⟩
    have hf' : (returnValue (.byte lo) t).fault = none :=
      (congrArg (·.2.fault) hlo).symm.trans ((readByteAt_reg_fault r .lo s).trans hf)
    have hhi' : readByteAt (.reg r .hi) (returnValue (.byte lo) t) = (hi, returnValue (.byte lo) u) := by
      rw [readByteAt_returnValue, hhi]
    refine ⟨lo, hi, returnValue (.byte lo) t, returnValue (.byte hi) (returnValue (.byte lo) u), _, ?_, rfl, ?_, rfl,
      ?_, rfl⟩
    · rw [exec_rd8At, busRead8_of_readByteAt hf hlo]
    · rw [exec_rd8At, busRead8_of_readByteAt hf' hhi']
    · rw [exec_rd16At, busRead16_of_readByteAt hf hlo hhi]
      rfl
  case writes =>
    have hparams : ∀ lane b t, t.params = s.params → (writeReg r lane b t).params = s.params := by
      intro lane b t ht
      obtain ⟨⟨-, -, -, hparams, -⟩, -⟩ := BusWrites.wreg r lane b t
      exact hparams.trans ht
    have hquietly : ∀ lane t, t.params = s.params → afterWrite (.reg r lane) t = t := fun lane t ht =>
      afterWrite_of_quiet (ht ▸ hquiet) lane
    have hlow := hparams .lo (laneOf v .lo) s rfl
    have hboth := hparams .hi (laneOf v .hi) _ hlow
    rw [exec_wr8At_unfaulted hf, exec_wr16At_unfaulted hf, hquietly _ _ hboth]
    have hf' : (writeReg r .lo (laneOf v .lo) s).fault = none := (BusWrites.wreg r .lo _ s).2.trans hf
    refine ⟨writeReg r .lo (laneOf v .lo) s, _, congrArg _ (hquietly _ _ hlow), ?_, rfl⟩
    rw [exec_wr8At_unfaulted hf']
    exact congrArg _ (hquietly _ _ hboth)

/-! ## The faulted block (R441) -/

/-- A well-formed instruction is a command that some word spells, or a phase event. -/
theorem spells_or_event {i : Instr} (hwf : WellFormed i = true) :
    (∃ w, Spells w i) ∨ ∃ p late, i = eventOf p late := by
  have hround := decodingAnEncodingGivesTheInstruction i hwf
  cases henc : encode i with
  | command w =>
    rw [henc] at hround
    exact .inl ⟨w, spells_of_decode hround⟩
  | event tag late =>
    rw [henc] at hround
    exact .inr ⟨_, _, (Except.ok.inj hround).symm⟩

theorem isBusCommand_rows (addr : BitVec 32) :
    isBusCommand (rd8Row addr) = true ∧ isBusCommand (rd16Row addr) = true ∧
    (∀ v, isBusCommand (wr8Row addr v) = true) ∧ ∀ v, isBusCommand (wr16Row addr v) = true := by
  refine ⟨?rd8, ?rd16, fun v => ?wr8, fun v => ?wr16⟩
  case rd8 => simp [isBusCommand, (rd8Row_word addr).2]
  case rd16 => simp [isBusCommand, (rd16Row_word addr).2]
  case wr8 => simp [isBusCommand, (wr8Row_word addr v).2]
  case wr16 => simp [isBusCommand, (wr16Row_word addr v).2]

theorem exec_eventOf_of_faulted {s : State} (hf : s.fault ≠ none) (p : Phase) (late : BitVec 32) :
    exec (eventOf p late) s = .next s := by
  cases p <;> exact congrArg _ (runOps_of_fault _ s hf)

/-- With a fault recorded no command acts; a read hands a value over, and only a bus command reads. -/
theorem exec_of_faulted {i : Instr} {s : State} (hf : s.fault ≠ none) (hwf : WellFormed i = true) (hrst : i ≠ .rst) :
    exec i s = .next s ∨
      isBusCommand i = true ∧ ∃ r n, exec i s = .next { s with readout := r, draws := n } := by
  have hfaulted := faulted_of_some s hf
  obtain ⟨w, hspells⟩ | ⟨p, late, rfl⟩ := spells_or_event hwf
  · cases hspells with
    | adv delta hdelta => exact .inl (by rw [exec, execAdv, if_neg (not_lt.2 hdelta), if_pos hfaulted])
    | rst => exact absurd rfl hrst
    | rd8 addr =>
      refine .inr ⟨(isBusCommand_rows addr).1, some (.byte (drawByte s).1), s.draws + 1, ?_⟩
      rw [exec_rd8Row, exec, execRd8, if_pos hfaulted]
      rfl
    | rd16 addr =>
      refine .inr ⟨(isBusCommand_rows addr).2.1, some (.half (Config.freeByte (s.draws + 1) ++ Config.freeByte s.draws)),
        s.draws + 2, ?_⟩
      rw [exec_rd16Row, exec, execRd16, if_pos hfaulted]
      rfl
    | wr8 addr v => exact .inl (by rw [exec_wr8Row, exec, execWr8, if_pos hfaulted])
    | wr16 addr v => exact .inl (by rw [exec_wr16Row, exec, execWr16, if_pos hfaulted])
  · exact .inl (exec_eventOf_of_faulted hf p late)

/-- Settles O10: `exec_of_faulted` for what does not act, the first test of each read for the drawn values. -/
theorem aFaultedBlockDoesNothing : Obligations.AFaultedBlockDoesNothing := by
  refine ⟨fun i s hf hwf hrst => ?frame, fun s r lane hf => ?byte, fun s r hf => ?half,
    fun i s hf hbus hwf hrst => ?silent, fun s => ⟨s.rst, rfl, rfl⟩, fun s => ?good⟩
  case frame =>
    obtain hsame | ⟨-, hread⟩ := exec_of_faulted hf hwf hrst
    · exact ⟨s.readout, s.draws, hsame⟩
    · exact hread
  case byte =>
    rw [exec_rd8At, busRead8, if_pos (faulted_of_some s hf)]
    rfl
  case half =>
    rw [exec_rd16At, busRead16, if_pos (faulted_of_some s hf)]
    rfl
  case silent =>
    obtain hsame | ⟨hbus', -⟩ := exec_of_faulted hf hwf hrst
    · exact hsame
    · exact absurd hbus' (Bool.eq_false_iff.1 hbus)
  case good => rw [goodEnd, Bool.not_eq_true', ← Bool.not_eq_true, faulted_eq, not_not]

/-! ## What no bus command changes (R275) -/

/-- The instruction writes that byte of that register. -/
def Writes (i : Instr) (r : Reg) (lane : Lane) : Prop := (∃ v, i = wr8At r lane v) ∨ ∃ v, i = wr16At r v

/-- What the byte writes of `i` leave of `s` in `t`, before the after-effect of R237. -/
structure Untouched (i : Instr) (s t : State) : Prop where
  internal : SameInternal s t
  params : t.params = s.params
  cycles : ∀ k, (t.tm.get k).cycles = (s.tm.get k).cycles ∨ s.params.timerEnableClearsSubtick = true
  counter : ∀ k, (t.tm.get k).counter = (s.tm.get k).counter ∨ Writes i (.tmcntH k) .lo
  current : ∀ j, ((t.bgx.get j).current = (s.bgx.get j).current ∧ (t.bgy.get j).current = (s.bgy.get j).current) ∨
    Writes i .dispcnt .lo
  trace : t.out = s.out ∧ t.dispstat.vcountFlag = s.dispstat.vcountFlag

/-- The case of a write that reaches none of the fields in question. -/
theorem Untouched.of_same {i : Instr} {s t : State} (hinternal : SameInternal s t) (hparams : t.params = s.params)
    (hcycles : ∀ k, (t.tm.get k).cycles = (s.tm.get k).cycles)
    (hcounter : ∀ k, (t.tm.get k).counter = (s.tm.get k).counter)
    (hx : ∀ j, (t.bgx.get j).current = (s.bgx.get j).current)
    (hy : ∀ j, (t.bgy.get j).current = (s.bgy.get j).current)
    (hout : t.out = s.out) (hflag : t.dispstat.vcountFlag = s.dispstat.vcountFlag) : Untouched i s t :=
  ⟨hinternal, hparams, fun k => .inl (hcycles k), fun k => .inl (hcounter k), fun j => .inl ⟨hx j, hy j⟩, hout, hflag⟩

theorem Untouched.refl (i : Instr) (s : State) : Untouched i s s :=
  .of_same ⟨rfl, rfl, rfl, rfl, rfl, rfl, rfl, fun _ => rfl⟩ rfl (fun _ => rfl) (fun _ => rfl) (fun _ => rfl)
    (fun _ => rfl) rfl rfl

theorem sameInternal_trans {s t u : State} (h : SameInternal s t) (h' : SameInternal t u) : SameInternal s u := by
  obtain ⟨hsched, hppu, hh, hv, hbg, hobj, hframe, hover⟩ := h
  obtain ⟨hsched', hppu', hh', hv', hbg', hobj', hframe', hover'⟩ := h'
  exact ⟨hsched'.trans hsched, hppu'.trans hppu, hh'.trans hh, hv'.trans hv, hbg'.trans hbg, hobj'.trans hobj,
    hframe'.trans hframe, fun k => (hover' k).trans (hover k)⟩

theorem Untouched.trans {i : Instr} {s t u : State} (h : Untouched i s t) (h' : Untouched i t u) : Untouched i s u where
  internal := sameInternal_trans h.internal h'.internal
  params := h'.params.trans h.params
  cycles k := by
    obtain hsame | hclears := h'.cycles k
    · exact (h.cycles k).imp_left hsame.trans
    · exact .inr (h.params ▸ hclears)
  counter k := by
    obtain hsame | hwrites := h'.counter k
    · exact (h.counter k).imp_left hsame.trans
    · exact .inr hwrites
  current j := by
    obtain ⟨hx, hy⟩ | hwrites := h'.current j
    · exact (h.current j).imp_left (And.imp hx.trans hy.trans)
    · exact .inr hwrites
  trace := ⟨h'.trace.1.trans h.trace.1, h'.trace.2.trans h.trace.2⟩

/-- A write of one timer, its counter aside. -/
theorem Untouched.of_setTimer {i : Instr} {s : State} (n : Ix4) {t : Timer}
    (hover : t.overflow = (s.tm.get n).overflow)
    (hcycles : t.cycles = (s.tm.get n).cycles ∨ s.params.timerEnableClearsSubtick = true)
    (hcounter : t.counter = (s.tm.get n).counter ∨ Writes i (.tmcntH n) .lo) :
    Untouched i s (setTimer n t s) := by
  have hget : ∀ k, k = n ∧ (s.tm.set n t).get k = t ∨ (s.tm.set n t).get k = s.tm.get k := by
    intro k
    by_cases hk : k = n
    · exact .inl ⟨hk, hk ▸ four_get_set_self s.tm n t⟩
    · exact .inr (four_get_set_other s.tm n k t hk)
  refine ⟨⟨rfl, rfl, rfl, rfl, rfl, rfl, rfl, fun k => ?flag⟩, rfl, fun k => ?cycles, fun k => ?counter,
    fun _ => .inl ⟨rfl, rfl⟩, rfl, rfl⟩
  all_goals
    rw [setTimer]
    obtain ⟨rfl, hk⟩ | hk := hget k
  case flag.inl => rwa [hk]
  case flag.inr => rw [hk]
  case cycles.inl => rwa [hk]
  case cycles.inr => exact .inl (by rw [hk])
  case counter.inl => rwa [hk]
  case counter.inr => exact .inl (by rw [hk])

theorem writeTimerControl_untouched {i : Instr} {n : Ix4} {lane : Lane} (hw : Writes i (.tmcntH n) lane) (v : Byte)
    (s : State) : Untouched i s (writeTimerControl n lane v s) := by
  cases lane with
  | hi => exact .refl i s
  | lo =>
    rw [writeTimerControl, timer_control_eq]
    refine .of_setTimer n rfl ?_ (.inr hw)
    by_cases hclears : s.params.timerEnableClearsSubtick = true
    · exact .inr hclears
    · exact .inl (if_neg fun h => hclears h.2)

theorem writeDispcntLow_untouched {i : Instr} (hw : Writes i .dispcnt .lo) (v : Byte) (s : State) :
    Untouched i s (writeDispcntLow v s) := by
  have hlow : ∀ t : State, SameInternal s t → t.params = s.params → t.tm = s.tm → t.out = s.out →
      t.dispstat = s.dispstat → Untouched i s t := fun t h hp htm hout hd =>
    ⟨h, hp, fun k => .inl (by rw [htm]), fun k => .inl (by rw [htm]), fun _ => .inr hw, hout, by rw [hd]⟩
  rw [writeDispcntLow_eq]
  split
  · exact hlow _ ⟨rfl, rfl, rfl, rfl, rfl, rfl, rfl, fun _ => rfl⟩ rfl rfl rfl rfl
  · exact hlow _ ⟨rfl, rfl, rfl, rfl, rfl, rfl, rfl, fun _ => rfl⟩ rfl rfl rfl rfl

/-- A write of a register's initial value leaves the accumulators. -/
theorem current_set_setInitial (p : Two RefPoint) (n j : Ix2) (v : BitVec 28) :
    ((p.set n ((p.get n).setInitial v)).get j).current = (p.get j).current := by
  cases n <;> cases j <;> rfl

theorem writeReg_untouched {i : Instr} {r : Reg} {lane : Lane} (hw : Writes i r lane) (v : Byte) (s : State) :
    Untouched i s (writeReg r lane v s) := by
  have same : ∀ t : State, SameInternal s t → t.params = s.params → t.tm = s.tm → t.bgx = s.bgx → t.bgy = s.bgy →
      t.out = s.out → t.dispstat.vcountFlag = s.dispstat.vcountFlag → Untouched i s t :=
    fun t h hp htm hx hy hout hd =>
      .of_same h hp (fun k => by rw [htm]) (fun k => by rw [htm]) (fun j => by rw [hx]) (fun j => by rw [hy]) hout hd
  cases r with
  | dispcnt =>
    cases lane with
    | lo => exact writeDispcntLow_untouched hw v s
    | hi => exact same _ ⟨rfl, rfl, rfl, rfl, rfl, rfl, rfl, fun _ => rfl⟩ rfl rfl rfl rfl rfl rfl
  | bgxLow n | bgxHigh n =>
    exact .of_same ⟨rfl, rfl, rfl, rfl, rfl, rfl, rfl, fun _ => rfl⟩ rfl (fun _ => rfl) (fun _ => rfl)
      (fun j => current_set_setInitial s.bgx n j _) (fun _ => rfl) rfl rfl
  | bgyLow n | bgyHigh n =>
    exact .of_same ⟨rfl, rfl, rfl, rfl, rfl, rfl, rfl, fun _ => rfl⟩ rfl (fun _ => rfl) (fun _ => rfl)
      (fun _ => rfl) (fun j => current_set_setInitial s.bgy n j _) rfl rfl
  | tmcntL n => exact .of_setTimer n rfl (.inl rfl) (.inl rfl)
  | tmcntH n => exact writeTimerControl_untouched hw v s
  | _ => cases lane <;> exact same _ ⟨rfl, rfl, rfl, rfl, rfl, rfl, rfl, fun _ => rfl⟩ rfl rfl rfl rfl rfl rfl

theorem Untouched.of_readout (i : Instr) (s : State) (r : Option ReadValue) (n : Nat) (f : Option FaultCode) :
    Untouched i s { s with readout := r, draws := n, fault := f } :=
  .of_same ⟨rfl, rfl, rfl, rfl, rfl, rfl, rfl, fun _ => rfl⟩ rfl (fun _ => rfl) (fun _ => rfl) (fun _ => rfl)
    (fun _ => rfl) rfl rfl

theorem writeByteAt_untouched {i : Instr} {l : Loc} (hvalid : l.valid)
    (hw : ∀ r lane, l = .reg r lane → Writes i r lane) (v : Byte) (s : State) :
    Untouched i s (writeByteAt l v s) := by
  cases l with
  | reg r lane => exact writeReg_untouched (hw r lane rfl) v s
  | mem sp off =>
    rw [writeByteAt, memWrite8_of_lt sp off v s hvalid]
    cases sp <;>
      exact .of_same ⟨rfl, rfl, rfl, rfl, rfl, rfl, rfl, fun _ => rfl⟩ rfl (fun _ => rfl) (fun _ => rfl) (fun _ => rfl)
        (fun _ => rfl) rfl rfl

/-- What the bus command `i` leaves of `s` in `t` (R275). -/
structure Keeps (i : Instr) (s t : State) : Prop where
  internal : SameInternal s t
  cycles : ∀ k, (t.tm.get k).cycles = (s.tm.get k).cycles ∨ s.params.timerEnableClearsSubtick = true
  counter : ∀ k, (t.tm.get k).counter = (s.tm.get k).counter ∨ Writes i (.tmcntH k) .lo
  current : ∀ j, ((t.bgx.get j).current = (s.bgx.get j).current ∧ (t.bgy.get j).current = (s.bgy.get j).current) ∨
    Writes i .dispcnt .lo
  trace : (t.out = s.out ∧ t.dispstat.vcountFlag = s.dispstat.vcountFlag) ∨
    (s.params.vcountEvalOnWrite = true ∧ (∃ lane, Writes i .dispstat lane) ∧
      (t.out = s.out ∨ t.out = s.out ++ [⟨.raise .vcount, s.sched.now, none⟩]))

theorem Untouched.keeps {i : Instr} {s t : State} (h : Untouched i s t) : Keeps i s t :=
  ⟨h.internal, h.cycles, h.counter, h.current, .inl h.trace⟩

/-- The match evaluated after a write of DISPSTAT writes its flag and one record at most (R237). -/
theorem Untouched.keeps_evalVCount {i : Instr} {s t : State} {lane : Lane} (h : Untouched i s t)
    (hw : Writes i .dispstat lane) (heval : t.params.vcountEvalOnWrite = true) : Keeps i s (evalVCount none t) := by
  rw [evalVCount_eq]
  refine ⟨h.internal, h.cycles, h.counter, h.current, .inr ⟨h.params ▸ heval, ⟨lane, hw⟩, ?_⟩⟩
  obtain ⟨hsched, -⟩ := h.internal
  rw [← h.trace.1, ← hsched]
  split
  · exact .inr rfl
  · exact .inl (List.append_nil _)

theorem Untouched.keeps_afterWrite {i : Instr} {s t : State} {l : Loc} (h : Untouched i s t)
    (hw : ∀ r lane, l = .reg r lane → Writes i r lane) : Keeps i s (afterWrite l t) := by
  unfold afterWrite
  split
  · split
    · exact h.keeps_evalVCount (hw .dispstat _ rfl) ‹_›
    · exact h.keeps
  · exact h.keeps

section Bus
variable {i : Instr} {l : Loc} (hvalid : l.valid) (s : State)
include hvalid

theorem busRead8_keeps : Keeps i s (busRead8 l s) := by
  obtain ⟨r, n, hread⟩ := busRead8_cases l s hvalid
  rw [hread]
  exact (Untouched.of_readout i s r n s.fault).keeps

theorem busRead16_keeps : Keeps i s (busRead16 l s) := by
  obtain ⟨r, n, f, hread, -⟩ := busRead16_cases l s hvalid (above_valid l hvalid)
  rw [hread]
  exact (Untouched.of_readout i s r n f).keeps

theorem busWrite8_keeps (hw : ∀ r lane, l = .reg r lane → Writes i r lane) (v : Byte) :
    Keeps i s (busWrite8 l v s) := by
  unfold busWrite8
  split
  · exact (Untouched.refl i s).keeps
  · exact (writeByteAt_untouched hvalid hw v s).keeps_afterWrite hw

theorem busWrite16_keeps (hw : ∀ r, l = .reg r .lo → ∀ lane, Writes i r lane) (v : Half) :
    Keeps i s (busWrite16 l v s) := by
  unfold busWrite16
  split
  · exact (Untouched.refl i s).keeps
  · rename_i hunfaulted
    split
    · rw [raiseFault_of_none _ s (by simpa [faulted_eq] using hunfaulted)]
      exact (Untouched.of_readout i s s.readout s.draws _).keeps
    · rename_i hodd
      have heven := Bool.eq_false_iff.2 hodd
      have hlow : ∀ r lane, l = .reg r lane → Writes i r lane := by
        rintro r lane rfl
        cases lane with
        | lo => exact hw r rfl .lo
        | hi => cases heven
      have hhigh : ∀ r lane, l.above = .reg r lane → Writes i r lane := by
        intro r lane habove
        cases l with
        | reg r' lane' =>
          cases habove
          exact (hw r (by cases lane' with | lo => rfl | hi => cases heven)) .hi
        | mem sp off => cases habove
      exact ((writeByteAt_untouched hvalid hlow _ s).trans
        (writeByteAt_untouched (above_valid l hvalid heven) hhigh _ _)).keeps_afterWrite hlow

end Bus

theorem wordOp_zero_append (delta : BitVec 32) : wordOp ((0#32) ++ delta) = 0 :=
  extractLsb'_zero_append_high delta (by decide)

/-- A command that is refused at an undecoded address has a decoded one where it completes. -/
theorem exists_decodeAddr {i : Instr} {addr : BitVec 32} {s t : State}
    (hrefused : decodeAddr addr = none → exec i s = .refused (.undecodedAddress addr)) (hexec : exec i s = .next t) :
    ∃ l, decodeAddr addr = some l := by
  refine Option.ne_none_iff_exists'.1 fun hnone => ?_
  rw [hrefused hnone] at hexec
  cases hexec

theorem exec_keeps_unfaulted {i : Instr} {s t : State} (hf : s.fault = none) (hbus : isBusCommand i = true)
    (hwf : WellFormed i = true) (hexec : exec i s = .next t) : Keeps i s t := by
  obtain ⟨w, hspells⟩ | ⟨p, late, rfl⟩ := spells_or_event hwf
  case inr => cases p <;> cases hbus
  cases hspells with
  | adv delta hdelta =>
    simp [isBusCommand, encode, wordOp_zero_append] at hbus
  | rst => cases hbus
  | rd8 addr =>
    obtain ⟨l, hdec⟩ := exists_decodeAddr (fun h => (exec_row_undecoded h hf).1) hexec
    rw [exec_rd8Row, exec_rd8_of_decodeAddr hdec] at hexec
    exact Host.Outcome.next.inj hexec ▸ busRead8_keeps (valid_of_decodeAddr addr l hdec) s
  | rd16 addr =>
    obtain ⟨l, hdec⟩ := exists_decodeAddr (fun h => (exec_row_undecoded h hf).2.1) hexec
    rw [exec_rd16Row, exec_rd16_of_decodeAddr hdec] at hexec
    exact Host.Outcome.next.inj hexec ▸ busRead16_keeps (valid_of_decodeAddr addr l hdec) s
  | wr8 addr v =>
    obtain ⟨l, hdec⟩ := exists_decodeAddr (fun h => (exec_row_undecoded h hf).2.2.1 v) hexec
    rw [exec_wr8Row, exec_wr8_of_decodeAddr hdec] at hexec
    refine Host.Outcome.next.inj hexec ▸ busWrite8_keeps (valid_of_decodeAddr addr l hdec) s ?_ v
    rintro r lane rfl
    exact .inl ⟨v, by rw [wr8Row, hdec]⟩
  | wr16 addr v =>
    obtain ⟨l, hdec⟩ := exists_decodeAddr (fun h => (exec_row_undecoded h hf).2.2.2 v) hexec
    rw [exec_wr16Row, exec_wr16_of_decodeAddr hdec] at hexec
    refine Host.Outcome.next.inj hexec ▸ busWrite16_keeps (valid_of_decodeAddr addr l hdec) s ?_ v
    rintro r rfl lane
    exact .inr ⟨v, by rw [wr16Row, hdec]⟩

theorem exec_keeps_faulted {i : Instr} {s t : State} (hf : s.fault ≠ none) (hbus : isBusCommand i = true)
    (hwf : WellFormed i = true) (hexec : exec i s = .next t) : Keeps i s t := by
  obtain hsame | ⟨-, r, n, hread⟩ := exec_of_faulted hf hwf (by rintro rfl; cases hbus)
  · obtain rfl := Host.Outcome.next.inj (hsame.symm.trans hexec)
    exact (Untouched.refl i s).keeps
  · obtain rfl := Host.Outcome.next.inj (hread.symm.trans hexec)
    exact (Untouched.of_readout i s r n s.fault).keeps

/-- Settles O44: the byte writes leave the fields in question (`writeReg_untouched`); the match is evaluated after DISPSTAT
only (`Untouched.keeps_afterWrite`). -/
theorem busCommandsLeaveTheInternalStateAlone : Obligations.BusCommandsLeaveTheInternalStateAlone := by
  intro i s t hbus hwf hexec
  obtain ⟨hinternal, hcycles, hcounter, hcurrent, htrace⟩ : Keeps i s t := by
    by_cases hf : s.fault = none
    · exact exec_keeps_unfaulted hf hbus hwf hexec
    · exact exec_keeps_faulted hf hbus hwf hexec
  refine ⟨hinternal, hcycles, hcounter, hcurrent, htrace.imp_right ?_⟩
  rintro ⟨heval, ⟨lane, ⟨v, hrow⟩ | hrow⟩, hout⟩
  · cases lane with
    | lo => exact ⟨heval, .inl ⟨v, hrow⟩, hout⟩
    | hi => exact ⟨heval, .inr (.inl ⟨v, hrow⟩), hout⟩
  · exact ⟨heval, .inr (.inr hrow), hout⟩

end Sys2Proof.Machine.RowProofs
end
